-- ==== Sys2Proof/Word.lean ====
section
/-! DEFINITION. The word types of the block (R6: XLEN = 32, R7, R8): plain bit vectors, whose arithmetic wraps modulo 2^32. -/

namespace Sys2Proof

/-- A register value, an address, a status register or an instruction word: 32 bits (R6, R8). -/
abbrev Word := BitVec 32

/-- One byte of guest memory (R60). -/
abbrev Byte := BitVec 8

/-- A 4-bit register index of an instruction (R20); 15 is the program counter. -/
abbrev RegIdx := BitVec 4

/-- The 4-bit condition field, bits 31:28 of every word (R91). -/
abbrev Cond := BitVec 4

end Sys2Proof
end

