-- ==== Sys2Proof/Syntax.lean ====
section
/-! DEFINITION. The instruction set: one constructor of `Instr` for each of the 127 rows of spec/opcode_table.json, in the table's order.
Operands are the fields of the row (R92, R93). A field that the rule says is not examined (R106) is no operand. -/

namespace Sys2Proof

/-- The addressing-mode descriptor of a single-register transfer, R100: the three combinations of `P` and `W` that are one
(`P = 0, W = 1` is a T variant or refused, C2). -/
inductive Indexing where
  /-- `P = 1, W = 0`: `[Rn, off]`. -/
  | offset
  /-- `P = 1, W = 1`: `[Rn, off]!`. -/
  | preIndexed
  /-- `P = 0, W = 0`: `[Rn], off`. -/
  | postIndexed
  deriving DecidableEq, Repr

/-- The rows of the opcode table. `u` is the `U` bit (add the offset), `w` the `W` bit (write-back), `sf` the `S` bit (set flags),
`regList` the register list with bit `i` for register `i`. The 8-bit offsets of XLSI are `imm4H:imm4L` (R104). -/
inductive Instr where
  /-- AND (immediate), R184. -/
  | andImmediate (cond : Cond) (sf : Bool) (rn rd : RegIdx) (imm12 : BitVec 12)
  /-- AND (register), R184. -/
  | andRegister (cond : Cond) (sf : Bool) (rn rd : RegIdx) (imm5 : BitVec 5) (ty : BitVec 2) (rm : RegIdx)
  /-- EOR (immediate), R185. -/
  | eorImmediate (cond : Cond) (sf : Bool) (rn rd : RegIdx) (imm12 : BitVec 12)
  /-- EOR (register), R185. -/
  | eorRegister (cond : Cond) (sf : Bool) (rn rd : RegIdx) (imm5 : BitVec 5) (ty : BitVec 2) (rm : RegIdx)
  /-- SUB (immediate), R186. -/
  | subImmediate (cond : Cond) (sf : Bool) (rn rd : RegIdx) (imm12 : BitVec 12)
  /-- SUB (register), R186. -/
  | subRegister (cond : Cond) (sf : Bool) (rn rd : RegIdx) (imm5 : BitVec 5) (ty : BitVec 2) (rm : RegIdx)
  /-- RSB (immediate), R187. -/
  | rsbImmediate (cond : Cond) (sf : Bool) (rn rd : RegIdx) (imm12 : BitVec 12)
  /-- RSB (register), R187. -/
  | rsbRegister (cond : Cond) (sf : Bool) (rn rd : RegIdx) (imm5 : BitVec 5) (ty : BitVec 2) (rm : RegIdx)
  /-- ADD (immediate), R188. -/
  | addImmediate (cond : Cond) (sf : Bool) (rn rd : RegIdx) (imm12 : BitVec 12)
  /-- ADD (register), R188. -/
  | addRegister (cond : Cond) (sf : Bool) (rn rd : RegIdx) (imm5 : BitVec 5) (ty : BitVec 2) (rm : RegIdx)
  /-- ADC (immediate), R189. -/
  | adcImmediate (cond : Cond) (sf : Bool) (rn rd : RegIdx) (imm12 : BitVec 12)
  /-- ADC (register), R189. -/
  | adcRegister (cond : Cond) (sf : Bool) (rn rd : RegIdx) (imm5 : BitVec 5) (ty : BitVec 2) (rm : RegIdx)
  /-- SBC (immediate), R190. -/
  | sbcImmediate (cond : Cond) (sf : Bool) (rn rd : RegIdx) (imm12 : BitVec 12)
  /-- SBC (register), R190. -/
  | sbcRegister (cond : Cond) (sf : Bool) (rn rd : RegIdx) (imm5 : BitVec 5) (ty : BitVec 2) (rm : RegIdx)
  /-- RSC (immediate), R191. -/
  | rscImmediate (cond : Cond) (sf : Bool) (rn rd : RegIdx) (imm12 : BitVec 12)
  /-- RSC (register), R191. -/
  | rscRegister (cond : Cond) (sf : Bool) (rn rd : RegIdx) (imm5 : BitVec 5) (ty : BitVec 2) (rm : RegIdx)
  /-- ORR (immediate), R192. -/
  | orrImmediate (cond : Cond) (sf : Bool) (rn rd : RegIdx) (imm12 : BitVec 12)
  /-- ORR (register), R192. -/
  | orrRegister (cond : Cond) (sf : Bool) (rn rd : RegIdx) (imm5 : BitVec 5) (ty : BitVec 2) (rm : RegIdx)
  /-- MOV (immediate), R193. -/
  | movImmediate (cond : Cond) (sf : Bool) (rn rd : RegIdx) (imm12 : BitVec 12)
  /-- MOV (register), R193. -/
  | movRegister (cond : Cond) (sf : Bool) (rn rd : RegIdx) (imm5 : BitVec 5) (ty : BitVec 2) (rm : RegIdx)
  /-- BIC (immediate), R194. -/
  | bicImmediate (cond : Cond) (sf : Bool) (rn rd : RegIdx) (imm12 : BitVec 12)
  /-- BIC (register), R194. -/
  | bicRegister (cond : Cond) (sf : Bool) (rn rd : RegIdx) (imm5 : BitVec 5) (ty : BitVec 2) (rm : RegIdx)
  /-- MVN (immediate), R195. -/
  | mvnImmediate (cond : Cond) (sf : Bool) (rn rd : RegIdx) (imm12 : BitVec 12)
  /-- MVN (register), R195. -/
  | mvnRegister (cond : Cond) (sf : Bool) (rn rd : RegIdx) (imm5 : BitVec 5) (ty : BitVec 2) (rm : RegIdx)
  /-- MOVW, R196: `imm16 = imm4:imm12`. -/
  | movw (cond : Cond) (rd : RegIdx) (imm16 : BitVec 16)
  /-- STRH (immediate), R224. -/
  | strhImmediate (cond : Cond) (idx : Indexing) (u : Bool) (rn rt : RegIdx) (imm8 : BitVec 8)
  /-- STRH (register), R224. -/
  | strhRegister (cond : Cond) (idx : Indexing) (u : Bool) (rn rt rm : RegIdx)
  /-- LDRH (immediate), R225. -/
  | ldrhImmediate (cond : Cond) (idx : Indexing) (u : Bool) (rn rt : RegIdx) (imm8 : BitVec 8)
  /-- LDRH (literal), R225, R222. -/
  | ldrhLiteral (cond : Cond) (idx : Indexing) (u : Bool) (rt : RegIdx) (imm8 : BitVec 8)
  /-- LDRH (register), R225. -/
  | ldrhRegister (cond : Cond) (idx : Indexing) (u : Bool) (rn rt rm : RegIdx)
  /-- LDRD (immediate), R226. -/
  | ldrdImmediate (cond : Cond) (idx : Indexing) (u : Bool) (rn rt : RegIdx) (imm8 : BitVec 8)
  /-- LDRD (literal), R226, R222. -/
  | ldrdLiteral (cond : Cond) (idx : Indexing) (u : Bool) (rt : RegIdx) (imm8 : BitVec 8)
  /-- LDRD (register), R226. -/
  | ldrdRegister (cond : Cond) (idx : Indexing) (u : Bool) (rn rt rm : RegIdx)
  /-- STRD (immediate), R227. -/
  | strdImmediate (cond : Cond) (idx : Indexing) (u : Bool) (rn rt : RegIdx) (imm8 : BitVec 8)
  /-- STRD (register), R227. -/
  | strdRegister (cond : Cond) (idx : Indexing) (u : Bool) (rn rt rm : RegIdx)
  /-- LDRSB (immediate), R228. -/
  | ldrsbImmediate (cond : Cond) (idx : Indexing) (u : Bool) (rn rt : RegIdx) (imm8 : BitVec 8)
  /-- LDRSB (literal), R228, R222. -/
  | ldrsbLiteral (cond : Cond) (idx : Indexing) (u : Bool) (rt : RegIdx) (imm8 : BitVec 8)
  /-- LDRSB (register), R228. -/
  | ldrsbRegister (cond : Cond) (idx : Indexing) (u : Bool) (rn rt rm : RegIdx)
  /-- LDRSH (immediate), R229. -/
  | ldrshImmediate (cond : Cond) (idx : Indexing) (u : Bool) (rn rt : RegIdx) (imm8 : BitVec 8)
  /-- LDRSH (literal), R229, R222. -/
  | ldrshLiteral (cond : Cond) (idx : Indexing) (u : Bool) (rt : RegIdx) (imm8 : BitVec 8)
  /-- LDRSH (register), R229. -/
  | ldrshRegister (cond : Cond) (idx : Indexing) (u : Bool) (rn rt rm : RegIdx)
  /-- STRHT (immediate), R230. -/
  | strhtImmediate (cond : Cond) (u : Bool) (rn rt : RegIdx) (imm8 : BitVec 8)
  /-- STRHT (register), R230. -/
  | strhtRegister (cond : Cond) (u : Bool) (rn rt rm : RegIdx)
  /-- LDRHT (immediate), R231. -/
  | ldrhtImmediate (cond : Cond) (u : Bool) (rn rt : RegIdx) (imm8 : BitVec 8)
  /-- LDRHT (register), R231. -/
  | ldrhtRegister (cond : Cond) (u : Bool) (rn rt rm : RegIdx)
  /-- LDRSBT (immediate), R232. -/
  | ldrsbtImmediate (cond : Cond) (u : Bool) (rn rt : RegIdx) (imm8 : BitVec 8)
  /-- LDRSBT (register), R232. -/
  | ldrsbtRegister (cond : Cond) (u : Bool) (rn rt rm : RegIdx)
  /-- LDRSHT (immediate), R233. -/
  | ldrshtImmediate (cond : Cond) (u : Bool) (rn rt : RegIdx) (imm8 : BitVec 8)
  /-- LDRSHT (register), R233. -/
  | ldrshtRegister (cond : Cond) (u : Bool) (rn rt rm : RegIdx)
  /-- LDRD (`store = false`) or STRD (`store = true`) with `P = 0, W = 1`, refused by R223; `i` is bit 22. -/
  | doublewordP0W1 (cond : Cond) (store u i : Bool) (rn rt : RegIdx) (imm8 : BitVec 8)
  /-- LDREX, R240. -/
  | ldrex (cond : Cond) (rn rt : RegIdx)
  /-- STREX, R241. -/
  | strex (cond : Cond) (rn rd rt : RegIdx)
  /-- STR (immediate), R264. -/
  | strImmediate (cond : Cond) (idx : Indexing) (u : Bool) (rn rt : RegIdx) (imm12 : BitVec 12)
  /-- STR (register), R264. -/
  | strRegister (cond : Cond) (idx : Indexing) (u : Bool) (rn rt : RegIdx) (imm5 : BitVec 5) (ty : BitVec 2) (rm : RegIdx)
  /-- LDR (immediate), R265. -/
  | ldrImmediate (cond : Cond) (idx : Indexing) (u : Bool) (rn rt : RegIdx) (imm12 : BitVec 12)
  /-- LDR (literal), R265, R262. -/
  | ldrLiteral (cond : Cond) (idx : Indexing) (u : Bool) (rt : RegIdx) (imm12 : BitVec 12)
  /-- LDR (register), R265. -/
  | ldrRegister (cond : Cond) (idx : Indexing) (u : Bool) (rn rt : RegIdx) (imm5 : BitVec 5) (ty : BitVec 2) (rm : RegIdx)
  /-- STRB (immediate), R266. -/
  | strbImmediate (cond : Cond) (idx : Indexing) (u : Bool) (rn rt : RegIdx) (imm12 : BitVec 12)
  /-- STRB (register), R266. -/
  | strbRegister (cond : Cond) (idx : Indexing) (u : Bool) (rn rt : RegIdx) (imm5 : BitVec 5) (ty : BitVec 2) (rm : RegIdx)
  /-- LDRB (immediate), R267. -/
  | ldrbImmediate (cond : Cond) (idx : Indexing) (u : Bool) (rn rt : RegIdx) (imm12 : BitVec 12)
  /-- LDRB (literal), R267, R262. -/
  | ldrbLiteral (cond : Cond) (idx : Indexing) (u : Bool) (rt : RegIdx) (imm12 : BitVec 12)
  /-- LDRB (register), R267. -/
  | ldrbRegister (cond : Cond) (idx : Indexing) (u : Bool) (rn rt : RegIdx) (imm5 : BitVec 5) (ty : BitVec 2) (rm : RegIdx)
  /-- STRT (immediate), R268. -/
  | strtImmediate (cond : Cond) (u : Bool) (rn rt : RegIdx) (imm12 : BitVec 12)
  /-- STRT (register), R268. -/
  | strtRegister (cond : Cond) (u : Bool) (rn rt : RegIdx) (imm5 : BitVec 5) (ty : BitVec 2) (rm : RegIdx)
  /-- LDRT (immediate), R269. -/
  | ldrtImmediate (cond : Cond) (u : Bool) (rn rt : RegIdx) (imm12 : BitVec 12)
  /-- LDRT (register), R269. -/
  | ldrtRegister (cond : Cond) (u : Bool) (rn rt : RegIdx) (imm5 : BitVec 5) (ty : BitVec 2) (rm : RegIdx)
  /-- STRBT (immediate), R270. -/
  | strbtImmediate (cond : Cond) (u : Bool) (rn rt : RegIdx) (imm12 : BitVec 12)
  /-- STRBT (register), R270. -/
  | strbtRegister (cond : Cond) (u : Bool) (rn rt : RegIdx) (imm5 : BitVec 5) (ty : BitVec 2) (rm : RegIdx)
  /-- LDRBT (immediate), R271. -/
  | ldrbtImmediate (cond : Cond) (u : Bool) (rn rt : RegIdx) (imm12 : BitVec 12)
  /-- LDRBT (register), R271. -/
  | ldrbtRegister (cond : Cond) (u : Bool) (rn rt : RegIdx) (imm5 : BitVec 5) (ty : BitVec 2) (rm : RegIdx)
  /-- The media space, refused by R272; `hi` is bits 24:5, `lo` bits 3:0. -/
  | mediaSpace (cond : Cond) (hi : BitVec 20) (lo : BitVec 4)
  /-- STMDA, R298. -/
  | stmda (cond : Cond) (w : Bool) (rn : RegIdx) (regList : BitVec 16)
  /-- STMIA, R299. -/
  | stmia (cond : Cond) (w : Bool) (rn : RegIdx) (regList : BitVec 16)
  /-- STMDB, R300. -/
  | stmdb (cond : Cond) (w : Bool) (rn : RegIdx) (regList : BitVec 16)
  /-- STMIB, R301. -/
  | stmib (cond : Cond) (w : Bool) (rn : RegIdx) (regList : BitVec 16)
  /-- LDMDA, R302. -/
  | ldmda (cond : Cond) (w : Bool) (rn : RegIdx) (regList : BitVec 16)
  /-- LDMIA, R303. -/
  | ldmia (cond : Cond) (w : Bool) (rn : RegIdx) (regList : BitVec 16)
  /-- LDMDB, R304. -/
  | ldmdb (cond : Cond) (w : Bool) (rn : RegIdx) (regList : BitVec 16)
  /-- LDMIB, R305. -/
  | ldmib (cond : Cond) (w : Bool) (rn : RegIdx) (regList : BitVec 16)
  /-- A native block transfer with `S = 1`, refused by R306; `l` is the load bit. -/
  | blockNativeS (cond : Cond) (p u w l : Bool) (rn : RegIdx) (regList : BitVec 16)
  /-- B, refused by R307. -/
  | b (cond : Cond) (imm24 : BitVec 24)
  /-- BL, refused by R308. -/
  | bl (cond : Cond) (imm24 : BitVec 24)
  /-- The coprocessor 10 and 11 space, refused by R321: `op` is bits 25:24, `mid` bits 23:12, `odd` bit 8, `low` bits 7:0. -/
  | vfpSpace (cond : Cond) (op : BitVec 2) (mid : BitVec 12) (odd : Bool) (low : BitVec 8)
  /-- STC, R325. -/
  | stc (cond : Cond) (p u d w : Bool) (rn crd coproc : BitVec 4) (imm8 : BitVec 8)
  /-- LDC (immediate), R326. -/
  | ldcImmediate (cond : Cond) (p u d w : Bool) (rn crd coproc : BitVec 4) (imm8 : BitVec 8)
  /-- LDC (literal), R326, R324. -/
  | ldcLiteral (cond : Cond) (p u d w : Bool) (crd coproc : BitVec 4) (imm8 : BitVec 8)
  /-- MCRR, R327. -/
  | mcrr (cond : Cond) (rt2 rt coproc opc1 crm : BitVec 4)
  /-- MRRC, R328. -/
  | mrrc (cond : Cond) (rt2 rt coproc opc1 crm : BitVec 4)
  /-- The coprocessor space `1100 000x`, refused by R333; `l` is bit 20. -/
  | cpSpace1100000x (cond : Cond) (l : Bool) (rn crd coproc : BitVec 4) (imm8 : BitVec 8)
  /-- MCR, R329. -/
  | mcr (cond : Cond) (opc1 : BitVec 3) (crn rt coproc : BitVec 4) (opc2 : BitVec 3) (crm : BitVec 4)
  /-- MRC, R330. -/
  | mrc (cond : Cond) (opc1 : BitVec 3) (crn rt coproc : BitVec 4) (opc2 : BitVec 3) (crm : BitVec 4)
  /-- CDP, R331. -/
  | cdp (cond : Cond) (opc1 crn crd coproc : BitVec 4) (opc2 : BitVec 3) (crm : BitVec 4)
  /-- HYP.CPS, R353; `m` is the `M` bit, `a`, `i`, `f` the selected masks. -/
  | hypCps (cond : Cond) (imod : BitVec 2) (m a i f : Bool) (mode : BitVec 5)
  /-- HYP.MRS, R354; `r` is the `R` bit (the SPSR when set). -/
  | hypMrs (cond : Cond) (r : Bool) (rd : RegIdx)
  /-- HYP.MSR (immediate), R355. -/
  | hypMsrImmediate (cond : Cond) (r : Bool) (mask : BitVec 4) (imm12 : BitVec 12)
  /-- HYP.MSR (register), R356. -/
  | hypMsrRegister (cond : Cond) (r : Bool) (mask : BitVec 4) (rn : RegIdx)
  /-- HYP.RFE, R381. -/
  | hypRfe (cond : Cond) (p u w : Bool) (rn : RegIdx)
  /-- HYP.SRS, R382. -/
  | hypSrs (cond : Cond) (p u w : Bool) (mode : BitVec 5)
  /-- HYP.WFI, R358. -/
  | hypWfi (cond : Cond)
  /-- The reserved hypercall SUBID 7, refused by R359; `low` is bits 17:0. -/
  | hypSubid7 (cond : Cond) (low : BitVec 18)
  /-- HYP.LDM (exception return), R383: bit 15 of the list is 1. -/
  | hypLdmExceptionReturn (cond : Cond) (p u w : Bool) (rn : RegIdx) (regList : BitVec 16)
  /-- HYP.LDM (user registers), R384: bit 15 of the list is 0. -/
  | hypLdmUserRegisters (cond : Cond) (p u w : Bool) (rn : RegIdx) (regList : BitVec 16)
  /-- HYP.STM (user registers), R385. -/
  | hypStmUserRegisters (cond : Cond) (p u : Bool) (rn : RegIdx) (regList : BitVec 16)
  /-- HYP.ANDS PC (immediate), R388, R387. -/
  | hypAndsPcImmediate (cond : Cond) (rn : RegIdx) (imm12 : BitVec 12)
  /-- HYP.ANDS PC (register), R388, R387. -/
  | hypAndsPcRegister (cond : Cond) (rn : RegIdx) (imm5 : BitVec 5) (ty : BitVec 2) (rm : RegIdx)
  /-- HYP.EORS PC (immediate), R389, R387. -/
  | hypEorsPcImmediate (cond : Cond) (rn : RegIdx) (imm12 : BitVec 12)
  /-- HYP.EORS PC (register), R389, R387. -/
  | hypEorsPcRegister (cond : Cond) (rn : RegIdx) (imm5 : BitVec 5) (ty : BitVec 2) (rm : RegIdx)
  /-- HYP.SUBS PC (immediate), R390, R387. -/
  | hypSubsPcImmediate (cond : Cond) (rn : RegIdx) (imm12 : BitVec 12)
  /-- HYP.SUBS PC (register), R390, R387. -/
  | hypSubsPcRegister (cond : Cond) (rn : RegIdx) (imm5 : BitVec 5) (ty : BitVec 2) (rm : RegIdx)
  /-- HYP.RSBS PC (immediate), R391, R387. -/
  | hypRsbsPcImmediate (cond : Cond) (rn : RegIdx) (imm12 : BitVec 12)
  /-- HYP.RSBS PC (register), R391, R387. -/
  | hypRsbsPcRegister (cond : Cond) (rn : RegIdx) (imm5 : BitVec 5) (ty : BitVec 2) (rm : RegIdx)
  /-- HYP.ADDS PC (immediate), R392, R387. -/
  | hypAddsPcImmediate (cond : Cond) (rn : RegIdx) (imm12 : BitVec 12)
  /-- HYP.ADDS PC (register), R392, R387. -/
  | hypAddsPcRegister (cond : Cond) (rn : RegIdx) (imm5 : BitVec 5) (ty : BitVec 2) (rm : RegIdx)
  /-- HYP.ADCS PC (immediate), R393, R387. -/
  | hypAdcsPcImmediate (cond : Cond) (rn : RegIdx) (imm12 : BitVec 12)
  /-- HYP.ADCS PC (register), R393, R387. -/
  | hypAdcsPcRegister (cond : Cond) (rn : RegIdx) (imm5 : BitVec 5) (ty : BitVec 2) (rm : RegIdx)
  /-- HYP.SBCS PC (immediate), R394, R387. -/
  | hypSbcsPcImmediate (cond : Cond) (rn : RegIdx) (imm12 : BitVec 12)
  /-- HYP.SBCS PC (register), R394, R387. -/
  | hypSbcsPcRegister (cond : Cond) (rn : RegIdx) (imm5 : BitVec 5) (ty : BitVec 2) (rm : RegIdx)
  /-- HYP.RSCS PC (immediate), R395, R387. -/
  | hypRscsPcImmediate (cond : Cond) (rn : RegIdx) (imm12 : BitVec 12)
  /-- HYP.RSCS PC (register), R395, R387. -/
  | hypRscsPcRegister (cond : Cond) (rn : RegIdx) (imm5 : BitVec 5) (ty : BitVec 2) (rm : RegIdx)
  /-- HYP.ORRS PC (immediate), R396, R387. -/
  | hypOrrsPcImmediate (cond : Cond) (rn : RegIdx) (imm12 : BitVec 12)
  /-- HYP.ORRS PC (register), R396, R387. -/
  | hypOrrsPcRegister (cond : Cond) (rn : RegIdx) (imm5 : BitVec 5) (ty : BitVec 2) (rm : RegIdx)
  /-- HYP.MOVS PC (immediate), R397, R387. -/
  | hypMovsPcImmediate (cond : Cond) (rn : RegIdx) (imm12 : BitVec 12)
  /-- HYP.MOVS PC (register), R397, R387. -/
  | hypMovsPcRegister (cond : Cond) (rn : RegIdx) (imm5 : BitVec 5) (ty : BitVec 2) (rm : RegIdx)
  /-- HYP.BICS PC (immediate), R398, R387. -/
  | hypBicsPcImmediate (cond : Cond) (rn : RegIdx) (imm12 : BitVec 12)
  /-- HYP.BICS PC (register), R398, R387. -/
  | hypBicsPcRegister (cond : Cond) (rn : RegIdx) (imm5 : BitVec 5) (ty : BitVec 2) (rm : RegIdx)
  /-- HYP.MVNS PC (immediate), R399, R387. -/
  | hypMvnsPcImmediate (cond : Cond) (rn : RegIdx) (imm12 : BitVec 12)
  /-- HYP.MVNS PC (register), R399, R387. -/
  | hypMvnsPcRegister (cond : Cond) (rn : RegIdx) (imm5 : BitVec 5) (ty : BitVec 2) (rm : RegIdx)
  deriving DecidableEq, Repr

/-- The condition field of an instruction, bits 31:28 of its word (R91). -/
def Instr.cond : Instr → Cond
  | .andImmediate cond _ _ _ _ => cond
  | .andRegister cond _ _ _ _ _ _ => cond
  | .eorImmediate cond _ _ _ _ => cond
  | .eorRegister cond _ _ _ _ _ _ => cond
  | .subImmediate cond _ _ _ _ => cond
  | .subRegister cond _ _ _ _ _ _ => cond
  | .rsbImmediate cond _ _ _ _ => cond
  | .rsbRegister cond _ _ _ _ _ _ => cond
  | .addImmediate cond _ _ _ _ => cond
  | .addRegister cond _ _ _ _ _ _ => cond
  | .adcImmediate cond _ _ _ _ => cond
  | .adcRegister cond _ _ _ _ _ _ => cond
  | .sbcImmediate cond _ _ _ _ => cond
  | .sbcRegister cond _ _ _ _ _ _ => cond
  | .rscImmediate cond _ _ _ _ => cond
  | .rscRegister cond _ _ _ _ _ _ => cond
  | .orrImmediate cond _ _ _ _ => cond
  | .orrRegister cond _ _ _ _ _ _ => cond
  | .movImmediate cond _ _ _ _ => cond
  | .movRegister cond _ _ _ _ _ _ => cond
  | .bicImmediate cond _ _ _ _ => cond
  | .bicRegister cond _ _ _ _ _ _ => cond
  | .mvnImmediate cond _ _ _ _ => cond
  | .mvnRegister cond _ _ _ _ _ _ => cond
  | .movw cond _ _ => cond
  | .strhImmediate cond _ _ _ _ _ => cond
  | .strhRegister cond _ _ _ _ _ => cond
  | .ldrhImmediate cond _ _ _ _ _ => cond
  | .ldrhLiteral cond _ _ _ _ => cond
  | .ldrhRegister cond _ _ _ _ _ => cond
  | .ldrdImmediate cond _ _ _ _ _ => cond
  | .ldrdLiteral cond _ _ _ _ => cond
  | .ldrdRegister cond _ _ _ _ _ => cond
  | .strdImmediate cond _ _ _ _ _ => cond
  | .strdRegister cond _ _ _ _ _ => cond
  | .ldrsbImmediate cond _ _ _ _ _ => cond
  | .ldrsbLiteral cond _ _ _ _ => cond
  | .ldrsbRegister cond _ _ _ _ _ => cond
  | .ldrshImmediate cond _ _ _ _ _ => cond
  | .ldrshLiteral cond _ _ _ _ => cond
  | .ldrshRegister cond _ _ _ _ _ => cond
  | .strhtImmediate cond _ _ _ _ => cond
  | .strhtRegister cond _ _ _ _ => cond
  | .ldrhtImmediate cond _ _ _ _ => cond
  | .ldrhtRegister cond _ _ _ _ => cond
  | .ldrsbtImmediate cond _ _ _ _ => cond
  | .ldrsbtRegister cond _ _ _ _ => cond
  | .ldrshtImmediate cond _ _ _ _ => cond
  | .ldrshtRegister cond _ _ _ _ => cond
  | .doublewordP0W1 cond _ _ _ _ _ _ => cond
  | .ldrex cond _ _ => cond
  | .strex cond _ _ _ => cond
  | .strImmediate cond _ _ _ _ _ => cond
  | .strRegister cond _ _ _ _ _ _ _ => cond
  | .ldrImmediate cond _ _ _ _ _ => cond
  | .ldrLiteral cond _ _ _ _ => cond
  | .ldrRegister cond _ _ _ _ _ _ _ => cond
  | .strbImmediate cond _ _ _ _ _ => cond
  | .strbRegister cond _ _ _ _ _ _ _ => cond
  | .ldrbImmediate cond _ _ _ _ _ => cond
  | .ldrbLiteral cond _ _ _ _ => cond
  | .ldrbRegister cond _ _ _ _ _ _ _ => cond
  | .strtImmediate cond _ _ _ _ => cond
  | .strtRegister cond _ _ _ _ _ _ => cond
  | .ldrtImmediate cond _ _ _ _ => cond
  | .ldrtRegister cond _ _ _ _ _ _ => cond
  | .strbtImmediate cond _ _ _ _ => cond
  | .strbtRegister cond _ _ _ _ _ _ => cond
  | .ldrbtImmediate cond _ _ _ _ => cond
  | .ldrbtRegister cond _ _ _ _ _ _ => cond
  | .mediaSpace cond _ _ => cond
  | .stmda cond _ _ _ => cond
  | .stmia cond _ _ _ => cond
  | .stmdb cond _ _ _ => cond
  | .stmib cond _ _ _ => cond
  | .ldmda cond _ _ _ => cond
  | .ldmia cond _ _ _ => cond
  | .ldmdb cond _ _ _ => cond
  | .ldmib cond _ _ _ => cond
  | .blockNativeS cond _ _ _ _ _ _ => cond
  | .b cond _ => cond
  | .bl cond _ => cond
  | .vfpSpace cond _ _ _ _ => cond
  | .stc cond _ _ _ _ _ _ _ _ => cond
  | .ldcImmediate cond _ _ _ _ _ _ _ _ => cond
  | .ldcLiteral cond _ _ _ _ _ _ _ => cond
  | .mcrr cond _ _ _ _ _ => cond
  | .mrrc cond _ _ _ _ _ => cond
  | .cpSpace1100000x cond _ _ _ _ _ => cond
  | .mcr cond _ _ _ _ _ _ => cond
  | .mrc cond _ _ _ _ _ _ => cond
  | .cdp cond _ _ _ _ _ _ => cond
  | .hypCps cond _ _ _ _ _ _ => cond
  | .hypMrs cond _ _ => cond
  | .hypMsrImmediate cond _ _ _ => cond
  | .hypMsrRegister cond _ _ _ => cond
  | .hypRfe cond _ _ _ _ => cond
  | .hypSrs cond _ _ _ _ => cond
  | .hypWfi cond => cond
  | .hypSubid7 cond _ => cond
  | .hypLdmExceptionReturn cond _ _ _ _ _ => cond
  | .hypLdmUserRegisters cond _ _ _ _ _ => cond
  | .hypStmUserRegisters cond _ _ _ _ => cond
  | .hypAndsPcImmediate cond _ _ => cond
  | .hypAndsPcRegister cond _ _ _ _ => cond
  | .hypEorsPcImmediate cond _ _ => cond
  | .hypEorsPcRegister cond _ _ _ _ => cond
  | .hypSubsPcImmediate cond _ _ => cond
  | .hypSubsPcRegister cond _ _ _ _ => cond
  | .hypRsbsPcImmediate cond _ _ => cond
  | .hypRsbsPcRegister cond _ _ _ _ => cond
  | .hypAddsPcImmediate cond _ _ => cond
  | .hypAddsPcRegister cond _ _ _ _ => cond
  | .hypAdcsPcImmediate cond _ _ => cond
  | .hypAdcsPcRegister cond _ _ _ _ => cond
  | .hypSbcsPcImmediate cond _ _ => cond
  | .hypSbcsPcRegister cond _ _ _ _ => cond
  | .hypRscsPcImmediate cond _ _ => cond
  | .hypRscsPcRegister cond _ _ _ _ => cond
  | .hypOrrsPcImmediate cond _ _ => cond
  | .hypOrrsPcRegister cond _ _ _ _ => cond
  | .hypMovsPcImmediate cond _ _ => cond
  | .hypMovsPcRegister cond _ _ _ _ => cond
  | .hypBicsPcImmediate cond _ _ => cond
  | .hypBicsPcRegister cond _ _ _ _ => cond
  | .hypMvnsPcImmediate cond _ _ => cond
  | .hypMvnsPcRegister cond _ _ _ _ => cond

end Sys2Proof
end

