-- ==== Sys2Proof/WellFormed.lean ====
section
/-! DEFINITION. Which terms of `Instr` have an encoding: the `unless` columns of spec/opcode_table.json (R117) as checks on operands.
Register combinations that an instruction refuses when it runs (R223, R263, ...) are not checks here: those words decode. -/

namespace Sys2Proof

/-- The base register of an immediate form whose `Rn = 1111` is the literal row (R98, R117). -/
def notLiteral (rn : RegIdx) : Bool := rn != 15#4

/-- A coprocessor number outside the SIMD/VFP space, R101: `coproc` is not `101x`. -/
def coprocOutsideVfp (coproc : BitVec 4) : Bool := coproc != 10#4 && coproc != 11#4

/-- The LDC and STC rows exclude `P = U = W = 0` (R101: MCRR, MRRC or the refused space). -/
def transferMode (p u w : Bool) : Bool := p || u || w

/-- The term has an encoding in the table. -/
def Instr.wellFormed : Instr → Bool
  | .andImmediate _ _ _ _ _ => true
  | .andRegister _ _ _ _ _ _ _ => true
  | .eorImmediate _ _ _ _ _ => true
  | .eorRegister _ _ _ _ _ _ _ => true
  | .subImmediate _ _ _ _ _ => true
  | .subRegister _ _ _ _ _ _ _ => true
  | .rsbImmediate _ _ _ _ _ => true
  | .rsbRegister _ _ _ _ _ _ _ => true
  | .addImmediate _ _ _ _ _ => true
  | .addRegister _ _ _ _ _ _ _ => true
  | .adcImmediate _ _ _ _ _ => true
  | .adcRegister _ _ _ _ _ _ _ => true
  | .sbcImmediate _ _ _ _ _ => true
  | .sbcRegister _ _ _ _ _ _ _ => true
  | .rscImmediate _ _ _ _ _ => true
  | .rscRegister _ _ _ _ _ _ _ => true
  | .orrImmediate _ _ _ _ _ => true
  | .orrRegister _ _ _ _ _ _ _ => true
  | .movImmediate _ _ _ _ _ => true
  | .movRegister _ _ _ _ _ _ _ => true
  | .bicImmediate _ _ _ _ _ => true
  | .bicRegister _ _ _ _ _ _ _ => true
  | .mvnImmediate _ _ _ _ _ => true
  | .mvnRegister _ _ _ _ _ _ _ => true
  | .movw _ _ _ => true
  | .strhImmediate _ _ _ _ _ _ => true
  | .strhRegister _ _ _ _ _ _ => true
  | .ldrhImmediate _ _ _ rn _ _ => notLiteral rn
  | .ldrhLiteral _ _ _ _ _ => true
  | .ldrhRegister _ _ _ _ _ _ => true
  | .ldrdImmediate _ _ _ rn _ _ => notLiteral rn
  | .ldrdLiteral _ _ _ _ _ => true
  | .ldrdRegister _ _ _ _ _ _ => true
  | .strdImmediate _ _ _ _ _ _ => true
  | .strdRegister _ _ _ _ _ _ => true
  | .ldrsbImmediate _ _ _ rn _ _ => notLiteral rn
  | .ldrsbLiteral _ _ _ _ _ => true
  | .ldrsbRegister _ _ _ _ _ _ => true
  | .ldrshImmediate _ _ _ rn _ _ => notLiteral rn
  | .ldrshLiteral _ _ _ _ _ => true
  | .ldrshRegister _ _ _ _ _ _ => true
  | .strhtImmediate _ _ _ _ _ => true
  | .strhtRegister _ _ _ _ _ => true
  | .ldrhtImmediate _ _ _ _ _ => true
  | .ldrhtRegister _ _ _ _ _ => true
  | .ldrsbtImmediate _ _ _ _ _ => true
  | .ldrsbtRegister _ _ _ _ _ => true
  | .ldrshtImmediate _ _ _ _ _ => true
  | .ldrshtRegister _ _ _ _ _ => true
  | .doublewordP0W1 _ _ _ _ _ _ _ => true
  | .ldrex _ _ _ => true
  | .strex _ _ _ _ => true
  | .strImmediate _ _ _ _ _ _ => true
  | .strRegister _ _ _ _ _ _ _ _ => true
  | .ldrImmediate _ _ _ rn _ _ => notLiteral rn
  | .ldrLiteral _ _ _ _ _ => true
  | .ldrRegister _ _ _ _ _ _ _ _ => true
  | .strbImmediate _ _ _ _ _ _ => true
  | .strbRegister _ _ _ _ _ _ _ _ => true
  | .ldrbImmediate _ _ _ rn _ _ => notLiteral rn
  | .ldrbLiteral _ _ _ _ _ => true
  | .ldrbRegister _ _ _ _ _ _ _ _ => true
  | .strtImmediate _ _ _ _ _ => true
  | .strtRegister _ _ _ _ _ _ _ => true
  | .ldrtImmediate _ _ _ _ _ => true
  | .ldrtRegister _ _ _ _ _ _ _ => true
  | .strbtImmediate _ _ _ _ _ => true
  | .strbtRegister _ _ _ _ _ _ _ => true
  | .ldrbtImmediate _ _ _ _ _ => true
  | .ldrbtRegister _ _ _ _ _ _ _ => true
  | .mediaSpace _ _ _ => true
  | .stmda _ _ _ _ => true
  | .stmia _ _ _ _ => true
  | .stmdb _ _ _ _ => true
  | .stmib _ _ _ _ => true
  | .ldmda _ _ _ _ => true
  | .ldmia _ _ _ _ => true
  | .ldmdb _ _ _ _ => true
  | .ldmib _ _ _ _ => true
  | .blockNativeS _ _ _ _ _ _ _ => true
  | .b _ _ => true
  | .bl _ _ => true
  | .vfpSpace _ op _ _ _ => op != 3#2
  | .stc _ p u _ w _ _ coproc _ => coprocOutsideVfp coproc && transferMode p u w
  | .ldcImmediate _ p u _ w rn _ coproc _ => coprocOutsideVfp coproc && transferMode p u w && notLiteral rn
  | .ldcLiteral _ p u _ w _ coproc _ => coprocOutsideVfp coproc && transferMode p u w
  | .mcrr _ _ _ coproc _ _ => coprocOutsideVfp coproc
  | .mrrc _ _ _ coproc _ _ => coprocOutsideVfp coproc
  | .cpSpace1100000x _ _ _ _ coproc _ => coprocOutsideVfp coproc
  | .mcr _ _ _ _ coproc _ _ => coprocOutsideVfp coproc
  | .mrc _ _ _ _ coproc _ _ => coprocOutsideVfp coproc
  | .cdp _ _ _ _ coproc _ _ => coprocOutsideVfp coproc
  | .hypCps _ _ _ _ _ _ _ => true
  | .hypMrs _ _ _ => true
  | .hypMsrImmediate _ _ _ _ => true
  | .hypMsrRegister _ _ _ _ => true
  | .hypRfe _ _ _ _ _ => true
  | .hypSrs _ _ _ _ _ => true
  | .hypWfi _ => true
  | .hypSubid7 _ _ => true
  | .hypLdmExceptionReturn _ _ _ _ _ regList => regList.getLsbD 15
  | .hypLdmUserRegisters _ _ _ _ _ regList => !regList.getLsbD 15
  | .hypStmUserRegisters _ _ _ _ _ => true
  | .hypAndsPcImmediate _ _ _ => true
  | .hypAndsPcRegister _ _ _ _ _ => true
  | .hypEorsPcImmediate _ _ _ => true
  | .hypEorsPcRegister _ _ _ _ _ => true
  | .hypSubsPcImmediate _ _ _ => true
  | .hypSubsPcRegister _ _ _ _ _ => true
  | .hypRsbsPcImmediate _ _ _ => true
  | .hypRsbsPcRegister _ _ _ _ _ => true
  | .hypAddsPcImmediate _ _ _ => true
  | .hypAddsPcRegister _ _ _ _ _ => true
  | .hypAdcsPcImmediate _ _ _ => true
  | .hypAdcsPcRegister _ _ _ _ _ => true
  | .hypSbcsPcImmediate _ _ _ => true
  | .hypSbcsPcRegister _ _ _ _ _ => true
  | .hypRscsPcImmediate _ _ _ => true
  | .hypRscsPcRegister _ _ _ _ _ => true
  | .hypOrrsPcImmediate _ _ _ => true
  | .hypOrrsPcRegister _ _ _ _ _ => true
  | .hypMovsPcImmediate _ _ _ => true
  | .hypMovsPcRegister _ _ _ _ _ => true
  | .hypBicsPcImmediate _ _ _ => true
  | .hypBicsPcRegister _ _ _ _ _ => true
  | .hypMvnsPcImmediate _ _ _ => true
  | .hypMvnsPcRegister _ _ _ _ _ => true

end Sys2Proof
end

