-- ==== Sys2Proof/Decode.lean ====
section
/-! DEFINITION. The decoder and, after it, the encoder. A word is cut once into the columns of R93's format table (`Fields`); the group
demultiplexers of R94 to R102 and the hypercall layout H0 of R350 read those columns; the layout is a parameter of the demultiplexers (R6). Total on every word: a word of no row is rejected by
the name of the refused space it lies in (R107). -/

namespace Sys2Proof

/-- The refused spaces that are no row of the opcode table (R96, R107, R387): why the decoder finds no instruction. -/
inductive DecodeReject where
  /-- Multiplies, SWP, other exclusives (R97, R242). -/
  | multiplySpace
  /-- Miscellaneous and halfword multiply: native MRS, MSR (register), BX, CLZ, BKPT, SMC (R97). -/
  | miscellaneous
  /-- Register-shifted register operand (R97). -/
  | registerShifted
  /-- TST, TEQ, CMP, CMN (R197). -/
  | compare
  /-- MOVT (R97). -/
  | movt
  /-- Native MSR (immediate) and hints (R97, R113). -/
  | msrImmediateHints
  /-- `hyp = 1` on a word outside the SVC space (R96, R351). -/
  | hypFlagOutsideSvc
  /-- Opcodes 8 to 11 in the SUBS PC, LR row (R387). -/
  | hypSubsOpcode
  /-- A register-shifted register in the SUBS PC, LR row (R387). -/
  | hypSubsRegisterShifted
  /-- A payload to which a hypercall layout other than H0 gives no form (R6, R107; log 17). -/
  | hypNoForm
  deriving DecidableEq, Repr

/-- `HYP_LAYOUT`, R6, U30: the layout of the hypercall payload. -/
inductive HypLayout where
  /-- Layout H0 of R350 (D18). -/
  | h0
  /-- The layout of another hypervisor build, which R350 lets a model put in its place: which form it reads in a payload is a free value
  (log 17). -/
  | build (n : Nat)
  deriving DecidableEq, Repr

/-- The columns of R93's format table, from bit 31 to bit 0. -/
structure Fields where
  /-- bits 31:28 -/
  cond : BitVec 4
  /-- bits 27:25 -/
  group : BitVec 3
  b24 : Bool
  b23 : Bool
  b22 : Bool
  b21 : Bool
  b20 : Bool
  /-- bits 19:16 -/
  f19 : BitVec 4
  /-- bits 15:12 -/
  f15 : BitVec 4
  /-- bits 11:8 -/
  f11 : BitVec 4
  b7 : Bool
  /-- bits 6:5 -/
  f6 : BitVec 2
  b4 : Bool
  /-- bits 3:0 -/
  f3 : BitVec 4
  deriving DecidableEq, Repr

/-- The columns of a word. -/
def fieldsOf (w : Word) : Fields where
  cond := w.extractLsb' 28 4
  group := w.extractLsb' 25 3
  b24 := w.getLsbD 24
  b23 := w.getLsbD 23
  b22 := w.getLsbD 22
  b21 := w.getLsbD 21
  b20 := w.getLsbD 20
  f19 := w.extractLsb' 16 4
  f15 := w.extractLsb' 12 4
  f11 := w.extractLsb' 8 4
  b7 := w.getLsbD 7
  f6 := w.extractLsb' 5 2
  b4 := w.getLsbD 4
  f3 := w.extractLsb' 0 4

/-- The word with these columns. -/
def Fields.toWord (f : Fields) : Word :=
  f.cond ++ f.group ++ BitVec.ofBool f.b24 ++ BitVec.ofBool f.b23 ++ BitVec.ofBool f.b22 ++ BitVec.ofBool f.b21
    ++ BitVec.ofBool f.b20 ++ f.f19 ++ f.f15 ++ f.f11 ++ BitVec.ofBool f.b7 ++ f.f6 ++ BitVec.ofBool f.b4 ++ f.f3

/-- `imm12`, bits 11:0 (R104). -/
def Fields.imm12 (f : Fields) : BitVec 12 := f.f11 ++ BitVec.ofBool f.b7 ++ f.f6 ++ BitVec.ofBool f.b4 ++ f.f3

/-- `imm16 = imm4:imm12`, bits 19:16 and 11:0 (R104). -/
def Fields.imm16 (f : Fields) : BitVec 16 := f.f19 ++ f.imm12

/-- `imm5`, bits 11:7 (R92). -/
def Fields.imm5 (f : Fields) : BitVec 5 := f.f11 ++ BitVec.ofBool f.b7

/-- `imm4H:imm4L`, bits 11:8 and 3:0 (R104). -/
def Fields.splitImm8 (f : Fields) : BitVec 8 := f.f11 ++ f.f3

/-- `imm8`, bits 7:0 (R92). -/
def Fields.imm8 (f : Fields) : BitVec 8 := BitVec.ofBool f.b7 ++ f.f6 ++ BitVec.ofBool f.b4 ++ f.f3

/-- `reg_list`, bits 15:0 (R92). -/
def Fields.regList (f : Fields) : BitVec 16 := f.f15 ++ f.imm12

/-- `imm24`, bits 23:0 (R92). -/
def Fields.imm24 (f : Fields) : BitVec 24 :=
  BitVec.ofBool f.b23 ++ BitVec.ofBool f.b22 ++ BitVec.ofBool f.b21 ++ BitVec.ofBool f.b20 ++ f.f19 ++ f.f15 ++ f.imm12

/-- The 5-bit `mode` operand of CPS and SRS, bits 4:0 (R350). -/
def Fields.mode5 (f : Fields) : BitVec 5 := BitVec.ofBool f.b4 ++ f.f3

/-- The addressing-mode descriptor of `P` and `W` (R100), where they are not `P = 0, W = 1`. -/
def Fields.indexing (f : Fields) : Indexing :=
  if f.b24 then (if f.b21 then .preIndexed else .offset) else .postIndexed

/-- `P = 0, W = 1`: the unprivileged T variants, or the refused doubleword row (R100, C2). -/
def Fields.isT (f : Fields) : Bool := !f.b24 && f.b21

/-- Data-processing (immediate), format DPI: the operation is `opcode`, bits 24:21 (R149, R197). -/
def decodeDpi (f : Fields) : Except DecodeReject Instr :=
  match f.b24, f.b23, f.b22, f.b21 with
  | false, false, false, false => .ok (.andImmediate f.cond f.b20 f.f19 f.f15 f.imm12)
  | false, false, false, true => .ok (.eorImmediate f.cond f.b20 f.f19 f.f15 f.imm12)
  | false, false, true, false => .ok (.subImmediate f.cond f.b20 f.f19 f.f15 f.imm12)
  | false, false, true, true => .ok (.rsbImmediate f.cond f.b20 f.f19 f.f15 f.imm12)
  | false, true, false, false => .ok (.addImmediate f.cond f.b20 f.f19 f.f15 f.imm12)
  | false, true, false, true => .ok (.adcImmediate f.cond f.b20 f.f19 f.f15 f.imm12)
  | false, true, true, false => .ok (.sbcImmediate f.cond f.b20 f.f19 f.f15 f.imm12)
  | false, true, true, true => .ok (.rscImmediate f.cond f.b20 f.f19 f.f15 f.imm12)
  | true, true, false, false => .ok (.orrImmediate f.cond f.b20 f.f19 f.f15 f.imm12)
  | true, true, false, true => .ok (.movImmediate f.cond f.b20 f.f19 f.f15 f.imm12)
  | true, true, true, false => .ok (.bicImmediate f.cond f.b20 f.f19 f.f15 f.imm12)
  | true, true, true, true => .ok (.mvnImmediate f.cond f.b20 f.f19 f.f15 f.imm12)
  | true, false, _, _ => .error .compare

/-- Data-processing (register), format DPR (R149, R197). -/
def decodeDpr (f : Fields) : Except DecodeReject Instr :=
  match f.b24, f.b23, f.b22, f.b21 with
  | false, false, false, false => .ok (.andRegister f.cond f.b20 f.f19 f.f15 f.imm5 f.f6 f.f3)
  | false, false, false, true => .ok (.eorRegister f.cond f.b20 f.f19 f.f15 f.imm5 f.f6 f.f3)
  | false, false, true, false => .ok (.subRegister f.cond f.b20 f.f19 f.f15 f.imm5 f.f6 f.f3)
  | false, false, true, true => .ok (.rsbRegister f.cond f.b20 f.f19 f.f15 f.imm5 f.f6 f.f3)
  | false, true, false, false => .ok (.addRegister f.cond f.b20 f.f19 f.f15 f.imm5 f.f6 f.f3)
  | false, true, false, true => .ok (.adcRegister f.cond f.b20 f.f19 f.f15 f.imm5 f.f6 f.f3)
  | false, true, true, false => .ok (.sbcRegister f.cond f.b20 f.f19 f.f15 f.imm5 f.f6 f.f3)
  | false, true, true, true => .ok (.rscRegister f.cond f.b20 f.f19 f.f15 f.imm5 f.f6 f.f3)
  | true, true, false, false => .ok (.orrRegister f.cond f.b20 f.f19 f.f15 f.imm5 f.f6 f.f3)
  | true, true, false, true => .ok (.movRegister f.cond f.b20 f.f19 f.f15 f.imm5 f.f6 f.f3)
  | true, true, true, false => .ok (.bicRegister f.cond f.b20 f.f19 f.f15 f.imm5 f.f6 f.f3)
  | true, true, true, true => .ok (.mvnRegister f.cond f.b20 f.f19 f.f15 f.imm5 f.f6 f.f3)
  | true, false, _, _ => .error .compare

/-- LDREX, STREX and the refused multiply space: bits 7:4 are `1001` (R97, R240 to R242). -/
def decodeSync (f : Fields) : Except DecodeReject Instr :=
  match f.b24, f.b23, f.b22, f.b21, f.b20 with
  | true, true, false, false, true => .ok (.ldrex f.cond f.f19 f.f15)
  | true, true, false, false, false => .ok (.strex f.cond f.f19 f.f15 f.f3)
  | _, _, _, _, _ => .error .multiplySpace

/-- The T variants of the extra load/store rows and the refused doubleword row: `P = 0, W = 1` (R220, R223). -/
def decodeExtraT (f : Fields) : Except DecodeReject Instr :=
  let c := f.cond
  match f.f6 == 1#2, f.f6 == 2#2, f.b20, f.b22 with
  | true, _, false, true => .ok (.strhtImmediate c f.b23 f.f19 f.f15 f.splitImm8)
  | true, _, false, false => .ok (.strhtRegister c f.b23 f.f19 f.f15 f.f3)
  | true, _, true, true => .ok (.ldrhtImmediate c f.b23 f.f19 f.f15 f.splitImm8)
  | true, _, true, false => .ok (.ldrhtRegister c f.b23 f.f19 f.f15 f.f3)
  | false, true, true, true => .ok (.ldrsbtImmediate c f.b23 f.f19 f.f15 f.splitImm8)
  | false, true, true, false => .ok (.ldrsbtRegister c f.b23 f.f19 f.f15 f.f3)
  | false, false, true, true => .ok (.ldrshtImmediate c f.b23 f.f19 f.f15 f.splitImm8)
  | false, false, true, false => .ok (.ldrshtRegister c f.b23 f.f19 f.f15 f.f3)
  | false, true, false, i => .ok (.doublewordP0W1 c false f.b23 i f.f19 f.f15 f.splitImm8)
  | false, false, false, i => .ok (.doublewordP0W1 c true f.b23 i f.f19 f.f15 f.splitImm8)

/-- The immediate forms of the extra load/store rows, bit 22 = 1; the literal test is made before the base is used (R220). -/
def decodeExtraImmediate (f : Fields) : Except DecodeReject Instr :=
  let c := f.cond
  let x := f.indexing
  match f.f6 == 1#2, f.f6 == 2#2, f.b20, f.f19 == 15#4 with
  | true, _, false, _ => .ok (.strhImmediate c x f.b23 f.f19 f.f15 f.splitImm8)
  | true, _, true, true => .ok (.ldrhLiteral c x f.b23 f.f15 f.splitImm8)
  | true, _, true, false => .ok (.ldrhImmediate c x f.b23 f.f19 f.f15 f.splitImm8)
  | false, true, false, true => .ok (.ldrdLiteral c x f.b23 f.f15 f.splitImm8)
  | false, true, false, false => .ok (.ldrdImmediate c x f.b23 f.f19 f.f15 f.splitImm8)
  | false, true, true, true => .ok (.ldrsbLiteral c x f.b23 f.f15 f.splitImm8)
  | false, true, true, false => .ok (.ldrsbImmediate c x f.b23 f.f19 f.f15 f.splitImm8)
  | false, false, false, _ => .ok (.strdImmediate c x f.b23 f.f19 f.f15 f.splitImm8)
  | false, false, true, true => .ok (.ldrshLiteral c x f.b23 f.f15 f.splitImm8)
  | false, false, true, false => .ok (.ldrshImmediate c x f.b23 f.f19 f.f15 f.splitImm8)

/-- The register forms of the extra load/store rows, bit 22 = 0 (R220). -/
def decodeExtraRegister (f : Fields) : Except DecodeReject Instr :=
  let c := f.cond
  let x := f.indexing
  match f.f6 == 1#2, f.f6 == 2#2, f.b20 with
  | true, _, false => .ok (.strhRegister c x f.b23 f.f19 f.f15 f.f3)
  | true, _, true => .ok (.ldrhRegister c x f.b23 f.f19 f.f15 f.f3)
  | false, true, false => .ok (.ldrdRegister c x f.b23 f.f19 f.f15 f.f3)
  | false, true, true => .ok (.ldrsbRegister c x f.b23 f.f19 f.f15 f.f3)
  | false, false, false => .ok (.strdRegister c x f.b23 f.f19 f.f15 f.f3)
  | false, false, true => .ok (.ldrshRegister c x f.b23 f.f19 f.f15 f.f3)

/-- *DataProcGroup* with `op = inst[25] = 0` (R97). -/
def decodeDataProcRegister (f : Fields) : Except DecodeReject Instr :=
  if f.b7 && f.b4 then
    if f.f6 == 0#2 then decodeSync f
    else if f.isT then decodeExtraT f
    else if f.b22 then decodeExtraImmediate f
    else decodeExtraRegister f
  else if f.b24 && !f.b23 && !f.b20 then .error .miscellaneous
  else if f.b4 then .error .registerShifted
  else decodeDpr f

/-- *DataProcGroup* with `op = inst[25] = 1` (R97). -/
def decodeDataProcImmediate (f : Fields) : Except DecodeReject Instr :=
  if f.b24 && !f.b23 && !f.b20 then
    if f.b21 then .error .msrImmediateHints
    else if f.b22 then .error .movt
    else .ok (.movw f.cond f.f15 f.imm16)
  else decodeDpi f

/-- *LoadStoreGroup* with `A = 0`: the immediate format, T variants first, then literals (R98). -/
def decodeLoadStoreImmediate (f : Fields) : Except DecodeReject Instr :=
  let c := f.cond
  let x := f.indexing
  if f.isT then
    match f.b22, f.b20 with
    | false, false => .ok (.strtImmediate c f.b23 f.f19 f.f15 f.imm12)
    | false, true => .ok (.ldrtImmediate c f.b23 f.f19 f.f15 f.imm12)
    | true, false => .ok (.strbtImmediate c f.b23 f.f19 f.f15 f.imm12)
    | true, true => .ok (.ldrbtImmediate c f.b23 f.f19 f.f15 f.imm12)
  else
    match f.b22, f.b20, f.f19 == 15#4 with
    | false, false, _ => .ok (.strImmediate c x f.b23 f.f19 f.f15 f.imm12)
    | false, true, true => .ok (.ldrLiteral c x f.b23 f.f15 f.imm12)
    | false, true, false => .ok (.ldrImmediate c x f.b23 f.f19 f.f15 f.imm12)
    | true, false, _ => .ok (.strbImmediate c x f.b23 f.f19 f.f15 f.imm12)
    | true, true, true => .ok (.ldrbLiteral c x f.b23 f.f15 f.imm12)
    | true, true, false => .ok (.ldrbImmediate c x f.b23 f.f19 f.f15 f.imm12)

/-- *LoadStoreGroup* with `A = 1`: the register format, or the media space when bit 4 is 1 (R94, R98, R272). -/
def decodeLoadStoreRegister (f : Fields) : Except DecodeReject Instr :=
  let c := f.cond
  let x := f.indexing
  if f.b4 then
    .ok (.mediaSpace c (BitVec.ofBool f.b24 ++ BitVec.ofBool f.b23 ++ BitVec.ofBool f.b22 ++ BitVec.ofBool f.b21 ++ BitVec.ofBool f.b20
      ++ f.f19 ++ f.f15 ++ f.f11 ++ BitVec.ofBool f.b7 ++ f.f6) f.f3)
  else if f.isT then
    match f.b22, f.b20 with
    | false, false => .ok (.strtRegister c f.b23 f.f19 f.f15 f.imm5 f.f6 f.f3)
    | false, true => .ok (.ldrtRegister c f.b23 f.f19 f.f15 f.imm5 f.f6 f.f3)
    | true, false => .ok (.strbtRegister c f.b23 f.f19 f.f15 f.imm5 f.f6 f.f3)
    | true, true => .ok (.ldrbtRegister c f.b23 f.f19 f.f15 f.imm5 f.f6 f.f3)
  else
    match f.b22, f.b20 with
    | false, false => .ok (.strRegister c x f.b23 f.f19 f.f15 f.imm5 f.f6 f.f3)
    | false, true => .ok (.ldrRegister c x f.b23 f.f19 f.f15 f.imm5 f.f6 f.f3)
    | true, false => .ok (.strbRegister c x f.b23 f.f19 f.f15 f.imm5 f.f6 f.f3)
    | true, true => .ok (.ldrbRegister c x f.b23 f.f19 f.f15 f.imm5 f.f6 f.f3)

/-- Block transfers, `inst[27:25] = 100`: the variant is `P, U`, the direction `L` (R99, R306). -/
def decodeBlock (f : Fields) : Except DecodeReject Instr :=
  let c := f.cond
  if f.b22 then .ok (.blockNativeS c f.b24 f.b23 f.b21 f.b20 f.f19 f.regList)
  else
    match f.b24, f.b23, f.b20 with
    | false, false, false => .ok (.stmda c f.b21 f.f19 f.regList)
    | false, true, false => .ok (.stmia c f.b21 f.f19 f.regList)
    | true, false, false => .ok (.stmdb c f.b21 f.f19 f.regList)
    | true, true, false => .ok (.stmib c f.b21 f.f19 f.regList)
    | false, false, true => .ok (.ldmda c f.b21 f.f19 f.regList)
    | false, true, true => .ok (.ldmia c f.b21 f.f19 f.regList)
    | true, false, true => .ok (.ldmdb c f.b21 f.f19 f.regList)
    | true, true, true => .ok (.ldmib c f.b21 f.f19 f.regList)

/-- Branches, `inst[27:25] = 101` (R99). -/
def decodeBranch (f : Fields) : Except DecodeReject Instr :=
  if f.b24 then .ok (.bl f.cond f.imm24) else .ok (.b f.cond f.imm24)

/-- The SUBS PC, LR row of layout H0 (R350, R387): `I` is bit 20, `opcode` bits 19:16, `Rn` bits 15:12. -/
def decodeHypSubs (f : Fields) : Except DecodeReject Instr :=
  if f.f19.extractLsb' 2 2 == 2#2 then .error .hypSubsOpcode
  else if !f.b20 && f.b4 then .error .hypSubsRegisterShifted
  else
    match f.b20, f.f19.getLsbD 3, f.f19.getLsbD 2, f.f19.getLsbD 1, f.f19.getLsbD 0 with
    | true, false, false, false, false => .ok (.hypAndsPcImmediate f.cond f.f15 f.imm12)
    | true, false, false, false, true => .ok (.hypEorsPcImmediate f.cond f.f15 f.imm12)
    | true, false, false, true, false => .ok (.hypSubsPcImmediate f.cond f.f15 f.imm12)
    | true, false, false, true, true => .ok (.hypRsbsPcImmediate f.cond f.f15 f.imm12)
    | true, false, true, false, false => .ok (.hypAddsPcImmediate f.cond f.f15 f.imm12)
    | true, false, true, false, true => .ok (.hypAdcsPcImmediate f.cond f.f15 f.imm12)
    | true, false, true, true, false => .ok (.hypSbcsPcImmediate f.cond f.f15 f.imm12)
    | true, false, true, true, true => .ok (.hypRscsPcImmediate f.cond f.f15 f.imm12)
    | true, true, true, false, false => .ok (.hypOrrsPcImmediate f.cond f.f15 f.imm12)
    | true, true, true, false, true => .ok (.hypMovsPcImmediate f.cond f.f15 f.imm12)
    | true, true, true, true, false => .ok (.hypBicsPcImmediate f.cond f.f15 f.imm12)
    | true, true, true, true, true => .ok (.hypMvnsPcImmediate f.cond f.f15 f.imm12)
    | false, false, false, false, false => .ok (.hypAndsPcRegister f.cond f.f15 f.imm5 f.f6 f.f3)
    | false, false, false, false, true => .ok (.hypEorsPcRegister f.cond f.f15 f.imm5 f.f6 f.f3)
    | false, false, false, true, false => .ok (.hypSubsPcRegister f.cond f.f15 f.imm5 f.f6 f.f3)
    | false, false, false, true, true => .ok (.hypRsbsPcRegister f.cond f.f15 f.imm5 f.f6 f.f3)
    | false, false, true, false, false => .ok (.hypAddsPcRegister f.cond f.f15 f.imm5 f.f6 f.f3)
    | false, false, true, false, true => .ok (.hypAdcsPcRegister f.cond f.f15 f.imm5 f.f6 f.f3)
    | false, false, true, true, false => .ok (.hypSbcsPcRegister f.cond f.f15 f.imm5 f.f6 f.f3)
    | false, false, true, true, true => .ok (.hypRscsPcRegister f.cond f.f15 f.imm5 f.f6 f.f3)
    | false, true, true, false, false => .ok (.hypOrrsPcRegister f.cond f.f15 f.imm5 f.f6 f.f3)
    | false, true, true, false, true => .ok (.hypMovsPcRegister f.cond f.f15 f.imm5 f.f6 f.f3)
    | false, true, true, true, false => .ok (.hypBicsPcRegister f.cond f.f15 f.imm5 f.f6 f.f3)
    | false, true, true, true, true => .ok (.hypMvnsPcRegister f.cond f.f15 f.imm5 f.f6 f.f3)
    | _, true, false, _, _ => .error .hypSubsOpcode

/-- The rows of layout H0 with `inst[23:21] = 000`: the form is `SUBID = inst[20:18]` (R350). -/
def decodeHypSubid (f : Fields) : Except DecodeReject Instr :=
  let c := f.cond
  match f.b20, f.f19.getLsbD 3, f.f19.getLsbD 2 with
  | false, false, false =>
    .ok (.hypCps c (f.f19.extractLsb' 0 2) (f.f15.getLsbD 3) (f.f11.getLsbD 0) f.b7 (f.f6.getLsbD 1) f.mode5)
  | false, false, true => .ok (.hypMrs c (f.f19.getLsbD 0) f.f15)
  | false, true, false => .ok (.hypMsrImmediate c (f.f19.getLsbD 0) f.f15 f.imm12)
  | false, true, true => .ok (.hypMsrRegister c (f.f19.getLsbD 0) f.f15 f.f3)
  | true, false, false => .ok (.hypRfe c (f.f19.getLsbD 1) (f.f19.getLsbD 0) (f.f15.getLsbD 3) f.f3)
  | true, false, true => .ok (.hypSrs c (f.f19.getLsbD 1) (f.f19.getLsbD 0) (f.f15.getLsbD 3) f.mode5)
  | true, true, false => .ok (.hypWfi c)
  | true, true, true => .ok (.hypSubid7 c (f.f19.extractLsb' 0 2 ++ f.regList))

/-- *HypercallGroup*, layout H0: the ID is the leading bits of `inst[23:18]`, tested top to bottom (R350, R351). -/
def decodeHyp (f : Fields) : Except DecodeReject Instr :=
  if f.b23 then
    if f.f15.getLsbD 3 then .ok (.hypLdmExceptionReturn f.cond f.b22 f.b21 f.b20 f.f19 f.regList)
    else .ok (.hypLdmUserRegisters f.cond f.b22 f.b21 f.b20 f.f19 f.regList)
  else if f.b22 then .ok (.hypStmUserRegisters f.cond f.b21 f.b20 f.f19 f.regList)
  else if f.b21 then decodeHypSubs f
  else decodeHypSubid f

/-- LDC, STC, MCRR, MRRC and the refused `1100 000x` cell: `inst[27:25] = 110` (R101, R333). -/
def decodeCoprocTransfer (f : Fields) : Except DecodeReject Instr :=
  let c := f.cond
  if !f.b24 && !f.b23 && !f.b21 then
    match f.b22, f.b20 with
    | true, false => .ok (.mcrr c f.f19 f.f15 f.f11 (BitVec.ofBool f.b7 ++ f.f6 ++ BitVec.ofBool f.b4) f.f3)
    | true, true => .ok (.mrrc c f.f19 f.f15 f.f11 (BitVec.ofBool f.b7 ++ f.f6 ++ BitVec.ofBool f.b4) f.f3)
    | false, l => .ok (.cpSpace1100000x c l f.f19 f.f15 f.f11 f.imm8)
  else
    match f.b20, f.f19 == 15#4 with
    | false, _ => .ok (.stc c f.b24 f.b23 f.b22 f.b21 f.f19 f.f15 f.f11 f.imm8)
    | true, true => .ok (.ldcLiteral c f.b24 f.b23 f.b22 f.b21 f.f15 f.f11 f.imm8)
    | true, false => .ok (.ldcImmediate c f.b24 f.b23 f.b22 f.b21 f.f19 f.f15 f.f11 f.imm8)

/-- CDP, MCR and MRC: `inst[27:24] = 1110` (R101). -/
def decodeCoprocRegister (f : Fields) : Except DecodeReject Instr :=
  let c := f.cond
  match f.b4, f.b20 with
  | false, _ =>
    .ok (.cdp c (BitVec.ofBool f.b23 ++ BitVec.ofBool f.b22 ++ BitVec.ofBool f.b21 ++ BitVec.ofBool f.b20) f.f19 f.f15 f.f11
      (BitVec.ofBool f.b7 ++ f.f6) f.f3)
  | true, false =>
    .ok (.mcr c (BitVec.ofBool f.b23 ++ BitVec.ofBool f.b22 ++ BitVec.ofBool f.b21) f.f19 f.f15 f.f11 (BitVec.ofBool f.b7 ++ f.f6) f.f3)
  | true, true =>
    .ok (.mrc c (BitVec.ofBool f.b23 ++ BitVec.ofBool f.b22 ++ BitVec.ofBool f.b21) f.f19 f.f15 f.f11 (BitVec.ofBool f.b7 ++ f.f6) f.f3)

/-- `inst[27:24] = 1111`: the SVC space, which is the hypercall space (R101, R332, R351). -/
def Fields.isSvc (f : Fields) : Bool := f.group == 7#3 && f.b24

/-- The forms of the hypercall group, which the trap's ID selects (R102, R350): the instructions a hypercall layout places. -/
def Instr.isHypercall : Instr → Bool
  | .andImmediate .. => false
  | .andRegister .. => false
  | .eorImmediate .. => false
  | .eorRegister .. => false
  | .subImmediate .. => false
  | .subRegister .. => false
  | .rsbImmediate .. => false
  | .rsbRegister .. => false
  | .addImmediate .. => false
  | .addRegister .. => false
  | .adcImmediate .. => false
  | .adcRegister .. => false
  | .sbcImmediate .. => false
  | .sbcRegister .. => false
  | .rscImmediate .. => false
  | .rscRegister .. => false
  | .orrImmediate .. => false
  | .orrRegister .. => false
  | .movImmediate .. => false
  | .movRegister .. => false
  | .bicImmediate .. => false
  | .bicRegister .. => false
  | .mvnImmediate .. => false
  | .mvnRegister .. => false
  | .movw .. => false
  | .strhImmediate .. => false
  | .strhRegister .. => false
  | .ldrhImmediate .. => false
  | .ldrhLiteral .. => false
  | .ldrhRegister .. => false
  | .ldrdImmediate .. => false
  | .ldrdLiteral .. => false
  | .ldrdRegister .. => false
  | .strdImmediate .. => false
  | .strdRegister .. => false
  | .ldrsbImmediate .. => false
  | .ldrsbLiteral .. => false
  | .ldrsbRegister .. => false
  | .ldrshImmediate .. => false
  | .ldrshLiteral .. => false
  | .ldrshRegister .. => false
  | .strhtImmediate .. => false
  | .strhtRegister .. => false
  | .ldrhtImmediate .. => false
  | .ldrhtRegister .. => false
  | .ldrsbtImmediate .. => false
  | .ldrsbtRegister .. => false
  | .ldrshtImmediate .. => false
  | .ldrshtRegister .. => false
  | .doublewordP0W1 .. => false
  | .ldrex .. => false
  | .strex .. => false
  | .strImmediate .. => false
  | .strRegister .. => false
  | .ldrImmediate .. => false
  | .ldrLiteral .. => false
  | .ldrRegister .. => false
  | .strbImmediate .. => false
  | .strbRegister .. => false
  | .ldrbImmediate .. => false
  | .ldrbLiteral .. => false
  | .ldrbRegister .. => false
  | .strtImmediate .. => false
  | .strtRegister .. => false
  | .ldrtImmediate .. => false
  | .ldrtRegister .. => false
  | .strbtImmediate .. => false
  | .strbtRegister .. => false
  | .ldrbtImmediate .. => false
  | .ldrbtRegister .. => false
  | .mediaSpace .. => false
  | .stmda .. => false
  | .stmia .. => false
  | .stmdb .. => false
  | .stmib .. => false
  | .ldmda .. => false
  | .ldmia .. => false
  | .ldmdb .. => false
  | .ldmib .. => false
  | .blockNativeS .. => false
  | .b .. => false
  | .bl .. => false
  | .vfpSpace .. => false
  | .stc .. => false
  | .ldcImmediate .. => false
  | .ldcLiteral .. => false
  | .mcrr .. => false
  | .mrrc .. => false
  | .cpSpace1100000x .. => false
  | .mcr .. => false
  | .mrc .. => false
  | .cdp .. => false
  | .hypCps .. => true
  | .hypMrs .. => true
  | .hypMsrImmediate .. => true
  | .hypMsrRegister .. => true
  | .hypRfe .. => true
  | .hypSrs .. => true
  | .hypWfi .. => true
  | .hypSubid7 .. => false
  | .hypLdmExceptionReturn .. => true
  | .hypLdmUserRegisters .. => true
  | .hypStmUserRegisters .. => true
  | .hypAndsPcImmediate .. => true
  | .hypAndsPcRegister .. => true
  | .hypEorsPcImmediate .. => true
  | .hypEorsPcRegister .. => true
  | .hypSubsPcImmediate .. => true
  | .hypSubsPcRegister .. => true
  | .hypRsbsPcImmediate .. => true
  | .hypRsbsPcRegister .. => true
  | .hypAddsPcImmediate .. => true
  | .hypAddsPcRegister .. => true
  | .hypAdcsPcImmediate .. => true
  | .hypAdcsPcRegister .. => true
  | .hypSbcsPcImmediate .. => true
  | .hypSbcsPcRegister .. => true
  | .hypRscsPcImmediate .. => true
  | .hypRscsPcRegister .. => true
  | .hypOrrsPcImmediate .. => true
  | .hypOrrsPcRegister .. => true
  | .hypMovsPcImmediate .. => true
  | .hypMovsPcRegister .. => true
  | .hypBicsPcImmediate .. => true
  | .hypBicsPcRegister .. => true
  | .hypMvnsPcImmediate .. => true
  | .hypMvnsPcRegister .. => true

/-- What a hypercall layout reads in a word of the SVC space. -/
abbrev HypForms := Fields → Except DecodeReject Instr

/-- *CoprocGroup* (R101): the SVC row, then the coprocessor 10 and 11 space, then the rest. -/
def decodeCoproc (forms : HypForms) (f : Fields) : Except DecodeReject Instr :=
  if f.isSvc then forms f
  else if f.f11.extractLsb' 1 3 == 5#3 then
    .ok (.vfpSpace f.cond (BitVec.ofBool (f.group.getLsbD 0) ++ BitVec.ofBool f.b24)
      (BitVec.ofBool f.b23 ++ BitVec.ofBool f.b22 ++ BitVec.ofBool f.b21 ++ BitVec.ofBool f.b20 ++ f.f19 ++ f.f15)
      (f.f11.getLsbD 0) f.imm8)
  else if f.group == 6#3 then decodeCoprocTransfer f
  else decodeCoprocRegister f

/-- The top-level dispatch on `inst[27:25]` (R94). -/
def decodeNative (forms : HypForms) (f : Fields) : Except DecodeReject Instr :=
  match f.group.getLsbD 2, f.group.getLsbD 1, f.group.getLsbD 0 with
  | false, false, false => decodeDataProcRegister f
  | false, false, true => decodeDataProcImmediate f
  | false, true, false => decodeLoadStoreImmediate f
  | false, true, true => decodeLoadStoreRegister f
  | true, false, false => decodeBlock f
  | true, false, true => decodeBranch f
  | true, true, _ => decodeCoproc forms f

/-- Decoding from the columns: with the hypercall flag the top-level demultiplex is bypassed (R96, R351). -/
def decodeFields (forms : HypForms) (hyp : Bool) (f : Fields) : Except DecodeReject Instr :=
  if hyp then (if f.isSvc then forms f else .error .hypFlagOutsideSvc)
  else decodeNative forms f

/-- The decoder with layout H0: the instruction a word is, or the refused space it lies in (R94, R96). -/
def decode (hyp : Bool) (w : Word) : Except DecodeReject Instr := decodeFields decodeHyp hyp (fieldsOf w)

/-- The word of four bytes at rising addresses: little-endian (R61, R466). -/
def wordOfBytes (b0 b1 b2 b3 : Byte) : Word := b3 ++ b2 ++ b1 ++ b0

/-- Byte `k` of a word in the order it is stored, byte 0 at the lowest address (R61). -/
def byteOfWord (w : Word) (k : Nat) : Byte := w.extractLsb' (8 * k) 8

/-- The instruction the decoder reads from the bits `w` of a table row, laid out in memory order and read back as the fetch reads it. -/
def decodeTableWord (nbits w : Nat) : Option Instr :=
  let v := BitVec.ofNat 32 (w % 2 ^ nbits)
  (decode false (wordOfBytes (byteOfWord v 0) (byteOfWord v 1) (byteOfWord v 2) (byteOfWord v 3))).toOption

/-! The encoder, from the formats of R93 and layout H0 of R350. A bit that is not examined (R106) gets the value an assembler gives it:
bits 11:8 of XLSR are 0, the SYNC bits are 1, unnamed hypercall bits are 0 (log 23). -/

/-- `P` of a descriptor (R100). -/
def Indexing.p : Indexing → Bool
  | .offset => true
  | .preIndexed => true
  | .postIndexed => false

/-- `W` of a descriptor (R100). -/
def Indexing.w : Indexing → Bool
  | .offset => false
  | .preIndexed => true
  | .postIndexed => false

/-- The columns below bit 12 from a 12-bit value. -/
def Fields.withImm12 (f : Fields) (v : BitVec 12) : Fields :=
  { f with
    f11 := v.extractLsb' 8 4
    b7 := v.getLsbD 7
    f6 := v.extractLsb' 5 2
    b4 := v.getLsbD 4
    f3 := v.extractLsb' 0 4 }

/-- Columns 31:12; the rest is 0. -/
def highFields (cond : Cond) (group : BitVec 3) (b24 b23 b22 b21 b20 : Bool) (f19 f15 : BitVec 4) : Fields :=
  ⟨cond, group, b24, b23, b22, b21, b20, f19, f15, 0#4, false, 0#2, false, 0#4⟩

/-- Format DPI (R93), with the four opcode bits. -/
def encDpi (cond : Cond) (o3 o2 o1 o0 sf : Bool) (rn rd : RegIdx) (imm12 : BitVec 12) : Fields :=
  (highFields cond 1#3 o3 o2 o1 o0 sf rn rd).withImm12 imm12

/-- Format DPR (R93). -/
def encDpr (cond : Cond) (o3 o2 o1 o0 sf : Bool) (rn rd : RegIdx) (imm5 : BitVec 5) (ty : BitVec 2) (rm : RegIdx) : Fields :=
  ⟨cond, 0#3, o3, o2, o1, o0, sf, rn, rd, imm5.extractLsb' 1 4, imm5.getLsbD 0, ty, false, rm⟩

/-- Formats XLSI and XLSR (R93): `i` is bit 22, `hi` and `lo` bits 11:8 and 3:0. -/
def encExtra (cond : Cond) (p u i w l : Bool) (op2 : BitVec 2) (rn rt hi lo : BitVec 4) : Fields :=
  ⟨cond, 0#3, p, u, i, w, l, rn, rt, hi, true, op2, true, lo⟩

/-- Format XLSI. -/
def encXlsi (cond : Cond) (p u w l : Bool) (op2 : BitVec 2) (rn rt : RegIdx) (imm8 : BitVec 8) : Fields :=
  encExtra cond p u true w l op2 rn rt (imm8.extractLsb' 4 4) (imm8.extractLsb' 0 4)

/-- Format XLSR. -/
def encXlsr (cond : Cond) (p u w l : Bool) (op2 : BitVec 2) (rn rt rm : RegIdx) : Fields :=
  encExtra cond p u false w l op2 rn rt 0#4 rm

/-- Format LSI (R93). -/
def encLsi (cond : Cond) (p u b w l : Bool) (rn rt : RegIdx) (imm12 : BitVec 12) : Fields :=
  (highFields cond 2#3 p u b w l rn rt).withImm12 imm12

/-- Format LSR (R93). -/
def encLsr (cond : Cond) (p u b w l : Bool) (rn rt : RegIdx) (imm5 : BitVec 5) (ty : BitVec 2) (rm : RegIdx) : Fields :=
  ⟨cond, 3#3, p, u, b, w, l, rn, rt, imm5.extractLsb' 1 4, imm5.getLsbD 0, ty, false, rm⟩

/-- Format BLK (R93). -/
def encBlk (cond : Cond) (p u s w l : Bool) (rn : RegIdx) (regList : BitVec 16) : Fields :=
  (highFields cond 4#3 p u s w l rn (regList.extractLsb' 12 4)).withImm12 (regList.extractLsb' 0 12)

/-- Format BR (R93). -/
def encBr (cond : Cond) (l : Bool) (imm24 : BitVec 24) : Fields :=
  (highFields cond 5#3 l (imm24.getLsbD 23) (imm24.getLsbD 22) (imm24.getLsbD 21) (imm24.getLsbD 20) (imm24.extractLsb' 16 4)
    (imm24.extractLsb' 12 4)).withImm12 (imm24.extractLsb' 0 12)

/-- Format CPLS (R93). -/
def encCpls (cond : Cond) (p u d w l : Bool) (rn crd coproc : BitVec 4) (imm8 : BitVec 8) : Fields :=
  (highFields cond 6#3 p u d w l rn crd).withImm12 (coproc ++ imm8)

/-- Format CPRR (R93). -/
def encCprr (cond : Cond) (l : Bool) (rt2 rt coproc opc1 crm : BitVec 4) : Fields :=
  (highFields cond 6#3 false false true false l rt2 rt).withImm12 (coproc ++ opc1 ++ crm)

/-- Format CPDP (R93). -/
def encCpdp (cond : Cond) (opc1 crn crd coproc : BitVec 4) (opc2 : BitVec 3) (crm : BitVec 4) : Fields :=
  ⟨cond, 7#3, false, opc1.getLsbD 3, opc1.getLsbD 2, opc1.getLsbD 1, opc1.getLsbD 0, crn, crd, coproc, opc2.getLsbD 2,
    opc2.extractLsb' 0 2, false, crm⟩

/-- Format CPRT (R93). -/
def encCprt (cond : Cond) (l : Bool) (opc1 : BitVec 3) (crn rt coproc : BitVec 4) (opc2 : BitVec 3) (crm : BitVec 4) : Fields :=
  ⟨cond, 7#3, false, opc1.getLsbD 2, opc1.getLsbD 1, opc1.getLsbD 0, l, crn, rt, coproc, opc2.getLsbD 2, opc2.extractLsb' 0 2, true, crm⟩

/-- Format HYP (R93): payload bits 23:20, 19:16, 15:12 and 11:0. -/
def encHyp (cond : Cond) (b23 b22 b21 b20 : Bool) (f19 f15 : BitVec 4) (low : BitVec 12) : Fields :=
  (highFields cond 7#3 true b23 b22 b21 b20 f19 f15).withImm12 low

/-- The eight SUBID rows of layout H0 (R350): `SUBID`, bits 17:16, bits 15:12, bits 11:0. -/
def encSubid (cond : Cond) (i2 i1 i0 : Bool) (b17 b16 : Bool) (f15 : BitVec 4) (low : BitVec 12) : Fields :=
  encHyp cond false false false i2 (BitVec.ofBool i1 ++ BitVec.ofBool i0 ++ BitVec.ofBool b17 ++ BitVec.ofBool b16) f15 low

/-- The hypercall block forms (R350): bits 23:20, `Rn`, the list. -/
def encHypBlock (cond : Cond) (b23 b22 b21 b20 : Bool) (rn : RegIdx) (regList : BitVec 16) : Fields :=
  encHyp cond b23 b22 b21 b20 rn (regList.extractLsb' 12 4) (regList.extractLsb' 0 12)

/-- The SUBS PC, LR row, immediate form (R387). -/
def encSubsImmediate (cond : Cond) (opcode : BitVec 4) (rn : RegIdx) (imm12 : BitVec 12) : Fields :=
  encHyp cond false false true true opcode rn imm12

/-- The SUBS PC, LR row, register form (R387). -/
def encSubsRegister (cond : Cond) (opcode : BitVec 4) (rn : RegIdx) (imm5 : BitVec 5) (ty : BitVec 2) (rm : RegIdx) : Fields :=
  encHyp cond false false true false opcode rn (imm5 ++ ty ++ 0#1 ++ rm)

/-- The columns of an instruction. -/
def encodeFields : Instr → Fields
  | .andImmediate c sf rn rd imm12 => encDpi c false false false false sf rn rd imm12
  | .andRegister c sf rn rd imm5 ty rm => encDpr c false false false false sf rn rd imm5 ty rm
  | .eorImmediate c sf rn rd imm12 => encDpi c false false false true sf rn rd imm12
  | .eorRegister c sf rn rd imm5 ty rm => encDpr c false false false true sf rn rd imm5 ty rm
  | .subImmediate c sf rn rd imm12 => encDpi c false false true false sf rn rd imm12
  | .subRegister c sf rn rd imm5 ty rm => encDpr c false false true false sf rn rd imm5 ty rm
  | .rsbImmediate c sf rn rd imm12 => encDpi c false false true true sf rn rd imm12
  | .rsbRegister c sf rn rd imm5 ty rm => encDpr c false false true true sf rn rd imm5 ty rm
  | .addImmediate c sf rn rd imm12 => encDpi c false true false false sf rn rd imm12
  | .addRegister c sf rn rd imm5 ty rm => encDpr c false true false false sf rn rd imm5 ty rm
  | .adcImmediate c sf rn rd imm12 => encDpi c false true false true sf rn rd imm12
  | .adcRegister c sf rn rd imm5 ty rm => encDpr c false true false true sf rn rd imm5 ty rm
  | .sbcImmediate c sf rn rd imm12 => encDpi c false true true false sf rn rd imm12
  | .sbcRegister c sf rn rd imm5 ty rm => encDpr c false true true false sf rn rd imm5 ty rm
  | .rscImmediate c sf rn rd imm12 => encDpi c false true true true sf rn rd imm12
  | .rscRegister c sf rn rd imm5 ty rm => encDpr c false true true true sf rn rd imm5 ty rm
  | .orrImmediate c sf rn rd imm12 => encDpi c true true false false sf rn rd imm12
  | .orrRegister c sf rn rd imm5 ty rm => encDpr c true true false false sf rn rd imm5 ty rm
  | .movImmediate c sf rn rd imm12 => encDpi c true true false true sf rn rd imm12
  | .movRegister c sf rn rd imm5 ty rm => encDpr c true true false true sf rn rd imm5 ty rm
  | .bicImmediate c sf rn rd imm12 => encDpi c true true true false sf rn rd imm12
  | .bicRegister c sf rn rd imm5 ty rm => encDpr c true true true false sf rn rd imm5 ty rm
  | .mvnImmediate c sf rn rd imm12 => encDpi c true true true true sf rn rd imm12
  | .mvnRegister c sf rn rd imm5 ty rm => encDpr c true true true true sf rn rd imm5 ty rm
  | .movw c rd imm16 => encDpi c true false false false false (imm16.extractLsb' 12 4) rd (imm16.extractLsb' 0 12)
  | .strhImmediate c x u rn rt imm8 => encXlsi c x.p u x.w false 1#2 rn rt imm8
  | .strhRegister c x u rn rt rm => encXlsr c x.p u x.w false 1#2 rn rt rm
  | .ldrhImmediate c x u rn rt imm8 => encXlsi c x.p u x.w true 1#2 rn rt imm8
  | .ldrhLiteral c x u rt imm8 => encXlsi c x.p u x.w true 1#2 15#4 rt imm8
  | .ldrhRegister c x u rn rt rm => encXlsr c x.p u x.w true 1#2 rn rt rm
  | .ldrdImmediate c x u rn rt imm8 => encXlsi c x.p u x.w false 2#2 rn rt imm8
  | .ldrdLiteral c x u rt imm8 => encXlsi c x.p u x.w false 2#2 15#4 rt imm8
  | .ldrdRegister c x u rn rt rm => encXlsr c x.p u x.w false 2#2 rn rt rm
  | .strdImmediate c x u rn rt imm8 => encXlsi c x.p u x.w false 3#2 rn rt imm8
  | .strdRegister c x u rn rt rm => encXlsr c x.p u x.w false 3#2 rn rt rm
  | .ldrsbImmediate c x u rn rt imm8 => encXlsi c x.p u x.w true 2#2 rn rt imm8
  | .ldrsbLiteral c x u rt imm8 => encXlsi c x.p u x.w true 2#2 15#4 rt imm8
  | .ldrsbRegister c x u rn rt rm => encXlsr c x.p u x.w true 2#2 rn rt rm
  | .ldrshImmediate c x u rn rt imm8 => encXlsi c x.p u x.w true 3#2 rn rt imm8
  | .ldrshLiteral c x u rt imm8 => encXlsi c x.p u x.w true 3#2 15#4 rt imm8
  | .ldrshRegister c x u rn rt rm => encXlsr c x.p u x.w true 3#2 rn rt rm
  | .strhtImmediate c u rn rt imm8 => encXlsi c false u true false 1#2 rn rt imm8
  | .strhtRegister c u rn rt rm => encXlsr c false u true false 1#2 rn rt rm
  | .ldrhtImmediate c u rn rt imm8 => encXlsi c false u true true 1#2 rn rt imm8
  | .ldrhtRegister c u rn rt rm => encXlsr c false u true true 1#2 rn rt rm
  | .ldrsbtImmediate c u rn rt imm8 => encXlsi c false u true true 2#2 rn rt imm8
  | .ldrsbtRegister c u rn rt rm => encXlsr c false u true true 2#2 rn rt rm
  | .ldrshtImmediate c u rn rt imm8 => encXlsi c false u true true 3#2 rn rt imm8
  | .ldrshtRegister c u rn rt rm => encXlsr c false u true true 3#2 rn rt rm
  | .doublewordP0W1 c store u i rn rt imm8 =>
    encExtra c false u i true false (1#1 ++ BitVec.ofBool store) rn rt (imm8.extractLsb' 4 4) (imm8.extractLsb' 0 4)
  | .ldrex c rn rt => ⟨c, 0#3, true, true, false, false, true, rn, rt, 15#4, true, 0#2, true, 15#4⟩
  | .strex c rn rd rt => ⟨c, 0#3, true, true, false, false, false, rn, rd, 15#4, true, 0#2, true, rt⟩
  | .strImmediate c x u rn rt imm12 => encLsi c x.p u false x.w false rn rt imm12
  | .strRegister c x u rn rt imm5 ty rm => encLsr c x.p u false x.w false rn rt imm5 ty rm
  | .ldrImmediate c x u rn rt imm12 => encLsi c x.p u false x.w true rn rt imm12
  | .ldrLiteral c x u rt imm12 => encLsi c x.p u false x.w true 15#4 rt imm12
  | .ldrRegister c x u rn rt imm5 ty rm => encLsr c x.p u false x.w true rn rt imm5 ty rm
  | .strbImmediate c x u rn rt imm12 => encLsi c x.p u true x.w false rn rt imm12
  | .strbRegister c x u rn rt imm5 ty rm => encLsr c x.p u true x.w false rn rt imm5 ty rm
  | .ldrbImmediate c x u rn rt imm12 => encLsi c x.p u true x.w true rn rt imm12
  | .ldrbLiteral c x u rt imm12 => encLsi c x.p u true x.w true 15#4 rt imm12
  | .ldrbRegister c x u rn rt imm5 ty rm => encLsr c x.p u true x.w true rn rt imm5 ty rm
  | .strtImmediate c u rn rt imm12 => encLsi c false u false true false rn rt imm12
  | .strtRegister c u rn rt imm5 ty rm => encLsr c false u false true false rn rt imm5 ty rm
  | .ldrtImmediate c u rn rt imm12 => encLsi c false u false true true rn rt imm12
  | .ldrtRegister c u rn rt imm5 ty rm => encLsr c false u false true true rn rt imm5 ty rm
  | .strbtImmediate c u rn rt imm12 => encLsi c false u true true false rn rt imm12
  | .strbtRegister c u rn rt imm5 ty rm => encLsr c false u true true false rn rt imm5 ty rm
  | .ldrbtImmediate c u rn rt imm12 => encLsi c false u true true true rn rt imm12
  | .ldrbtRegister c u rn rt imm5 ty rm => encLsr c false u true true true rn rt imm5 ty rm
  | .mediaSpace c hi lo =>
    ⟨c, 3#3, hi.getLsbD 19, hi.getLsbD 18, hi.getLsbD 17, hi.getLsbD 16, hi.getLsbD 15, hi.extractLsb' 11 4, hi.extractLsb' 7 4,
      hi.extractLsb' 3 4, hi.getLsbD 2, hi.extractLsb' 0 2, true, lo⟩
  | .stmda c w rn regList => encBlk c false false false w false rn regList
  | .stmia c w rn regList => encBlk c false true false w false rn regList
  | .stmdb c w rn regList => encBlk c true false false w false rn regList
  | .stmib c w rn regList => encBlk c true true false w false rn regList
  | .ldmda c w rn regList => encBlk c false false false w true rn regList
  | .ldmia c w rn regList => encBlk c false true false w true rn regList
  | .ldmdb c w rn regList => encBlk c true false false w true rn regList
  | .ldmib c w rn regList => encBlk c true true false w true rn regList
  | .blockNativeS c p u w l rn regList => encBlk c p u true w l rn regList
  | .b c imm24 => encBr c false imm24
  | .bl c imm24 => encBr c true imm24
  | .vfpSpace c op mid odd low =>
    (highFields c (3#2 ++ BitVec.ofBool (op.getLsbD 1)) (op.getLsbD 0) (mid.getLsbD 11) (mid.getLsbD 10) (mid.getLsbD 9) (mid.getLsbD 8)
      (mid.extractLsb' 4 4) (mid.extractLsb' 0 4)).withImm12 (5#3 ++ BitVec.ofBool odd ++ low)
  | .stc c p u d w rn crd coproc imm8 => encCpls c p u d w false rn crd coproc imm8
  | .ldcImmediate c p u d w rn crd coproc imm8 => encCpls c p u d w true rn crd coproc imm8
  | .ldcLiteral c p u d w crd coproc imm8 => encCpls c p u d w true 15#4 crd coproc imm8
  | .mcrr c rt2 rt coproc opc1 crm => encCprr c false rt2 rt coproc opc1 crm
  | .mrrc c rt2 rt coproc opc1 crm => encCprr c true rt2 rt coproc opc1 crm
  | .cpSpace1100000x c l rn crd coproc imm8 => encCpls c false false false false l rn crd coproc imm8
  | .mcr c opc1 crn rt coproc opc2 crm => encCprt c false opc1 crn rt coproc opc2 crm
  | .mrc c opc1 crn rt coproc opc2 crm => encCprt c true opc1 crn rt coproc opc2 crm
  | .cdp c opc1 crn crd coproc opc2 crm => encCpdp c opc1 crn crd coproc opc2 crm
  | .hypCps c imod m a i f mode =>
    encSubid c false false false (imod.getLsbD 1) (imod.getLsbD 0) (BitVec.ofBool m ++ 0#3)
      (0#3 ++ BitVec.ofBool a ++ BitVec.ofBool i ++ BitVec.ofBool f ++ 0#1 ++ mode)
  | .hypMrs c r rd => encSubid c false false true false r rd 0#12
  | .hypMsrImmediate c r mask imm12 => encSubid c false true false false r mask imm12
  | .hypMsrRegister c r mask rn => encSubid c false true true false r mask (0#8 ++ rn)
  | .hypRfe c p u w rn => encSubid c true false false p u (BitVec.ofBool w ++ 0#3) (0#8 ++ rn)
  | .hypSrs c p u w mode => encSubid c true false true p u (BitVec.ofBool w ++ 0#3) (0#7 ++ mode)
  | .hypWfi c => encSubid c true true false false false 0#4 0#12
  | .hypSubid7 c low =>
    encSubid c true true true (low.getLsbD 17) (low.getLsbD 16) (low.extractLsb' 12 4) (low.extractLsb' 0 12)
  | .hypLdmExceptionReturn c p u w rn regList => encHypBlock c true p u w rn regList
  | .hypLdmUserRegisters c p u w rn regList => encHypBlock c true p u w rn regList
  | .hypStmUserRegisters c p u rn regList => encHypBlock c false true p u rn regList
  | .hypAndsPcImmediate c rn imm12 => encSubsImmediate c 0#4 rn imm12
  | .hypAndsPcRegister c rn imm5 ty rm => encSubsRegister c 0#4 rn imm5 ty rm
  | .hypEorsPcImmediate c rn imm12 => encSubsImmediate c 1#4 rn imm12
  | .hypEorsPcRegister c rn imm5 ty rm => encSubsRegister c 1#4 rn imm5 ty rm
  | .hypSubsPcImmediate c rn imm12 => encSubsImmediate c 2#4 rn imm12
  | .hypSubsPcRegister c rn imm5 ty rm => encSubsRegister c 2#4 rn imm5 ty rm
  | .hypRsbsPcImmediate c rn imm12 => encSubsImmediate c 3#4 rn imm12
  | .hypRsbsPcRegister c rn imm5 ty rm => encSubsRegister c 3#4 rn imm5 ty rm
  | .hypAddsPcImmediate c rn imm12 => encSubsImmediate c 4#4 rn imm12
  | .hypAddsPcRegister c rn imm5 ty rm => encSubsRegister c 4#4 rn imm5 ty rm
  | .hypAdcsPcImmediate c rn imm12 => encSubsImmediate c 5#4 rn imm12
  | .hypAdcsPcRegister c rn imm5 ty rm => encSubsRegister c 5#4 rn imm5 ty rm
  | .hypSbcsPcImmediate c rn imm12 => encSubsImmediate c 6#4 rn imm12
  | .hypSbcsPcRegister c rn imm5 ty rm => encSubsRegister c 6#4 rn imm5 ty rm
  | .hypRscsPcImmediate c rn imm12 => encSubsImmediate c 7#4 rn imm12
  | .hypRscsPcRegister c rn imm5 ty rm => encSubsRegister c 7#4 rn imm5 ty rm
  | .hypOrrsPcImmediate c rn imm12 => encSubsImmediate c 12#4 rn imm12
  | .hypOrrsPcRegister c rn imm5 ty rm => encSubsRegister c 12#4 rn imm5 ty rm
  | .hypMovsPcImmediate c rn imm12 => encSubsImmediate c 13#4 rn imm12
  | .hypMovsPcRegister c rn imm5 ty rm => encSubsRegister c 13#4 rn imm5 ty rm
  | .hypBicsPcImmediate c rn imm12 => encSubsImmediate c 14#4 rn imm12
  | .hypBicsPcRegister c rn imm5 ty rm => encSubsRegister c 14#4 rn imm5 ty rm
  | .hypMvnsPcImmediate c rn imm12 => encSubsImmediate c 15#4 rn imm12
  | .hypMvnsPcRegister c rn imm5 ty rm => encSubsRegister c 15#4 rn imm5 ty rm

/-- The word of an instruction. -/
def encode (i : Instr) : Word := (encodeFields i).toWord

/-- The bits of a word that its row leaves unexamined (R106, R350). The refused rows keep theirs as operands. -/
def Instr.unexamined : Instr → Word
  | .andImmediate .. => 0#32
  | .andRegister .. => 0#32
  | .eorImmediate .. => 0#32
  | .eorRegister .. => 0#32
  | .subImmediate .. => 0#32
  | .subRegister .. => 0#32
  | .rsbImmediate .. => 0#32
  | .rsbRegister .. => 0#32
  | .addImmediate .. => 0#32
  | .addRegister .. => 0#32
  | .adcImmediate .. => 0#32
  | .adcRegister .. => 0#32
  | .sbcImmediate .. => 0#32
  | .sbcRegister .. => 0#32
  | .rscImmediate .. => 0#32
  | .rscRegister .. => 0#32
  | .orrImmediate .. => 0#32
  | .orrRegister .. => 0#32
  | .movImmediate .. => 0#32
  | .movRegister .. => 0#32
  | .bicImmediate .. => 0#32
  | .bicRegister .. => 0#32
  | .mvnImmediate .. => 0#32
  | .mvnRegister .. => 0#32
  | .movw .. => 0#32
  | .strhImmediate .. => 0#32
  | .strhRegister .. => 0xF00#32
  | .ldrhImmediate .. => 0#32
  | .ldrhLiteral .. => 0#32
  | .ldrhRegister .. => 0xF00#32
  | .ldrdImmediate .. => 0#32
  | .ldrdLiteral .. => 0#32
  | .ldrdRegister .. => 0xF00#32
  | .strdImmediate .. => 0#32
  | .strdRegister .. => 0xF00#32
  | .ldrsbImmediate .. => 0#32
  | .ldrsbLiteral .. => 0#32
  | .ldrsbRegister .. => 0xF00#32
  | .ldrshImmediate .. => 0#32
  | .ldrshLiteral .. => 0#32
  | .ldrshRegister .. => 0xF00#32
  | .strhtImmediate .. => 0#32
  | .strhtRegister .. => 0xF00#32
  | .ldrhtImmediate .. => 0#32
  | .ldrhtRegister .. => 0xF00#32
  | .ldrsbtImmediate .. => 0#32
  | .ldrsbtRegister .. => 0xF00#32
  | .ldrshtImmediate .. => 0#32
  | .ldrshtRegister .. => 0xF00#32
  | .doublewordP0W1 .. => 0#32
  | .ldrex .. => 0xF0F#32
  | .strex .. => 0xF00#32
  | .strImmediate .. => 0#32
  | .strRegister .. => 0#32
  | .ldrImmediate .. => 0#32
  | .ldrLiteral .. => 0#32
  | .ldrRegister .. => 0#32
  | .strbImmediate .. => 0#32
  | .strbRegister .. => 0#32
  | .ldrbImmediate .. => 0#32
  | .ldrbLiteral .. => 0#32
  | .ldrbRegister .. => 0#32
  | .strtImmediate .. => 0#32
  | .strtRegister .. => 0#32
  | .ldrtImmediate .. => 0#32
  | .ldrtRegister .. => 0#32
  | .strbtImmediate .. => 0#32
  | .strbtRegister .. => 0#32
  | .ldrbtImmediate .. => 0#32
  | .ldrbtRegister .. => 0#32
  | .mediaSpace .. => 0#32
  | .stmda .. => 0#32
  | .stmia .. => 0#32
  | .stmdb .. => 0#32
  | .stmib .. => 0#32
  | .ldmda .. => 0#32
  | .ldmia .. => 0#32
  | .ldmdb .. => 0#32
  | .ldmib .. => 0#32
  | .blockNativeS .. => 0#32
  | .b .. => 0#32
  | .bl .. => 0#32
  | .vfpSpace .. => 0#32
  | .stc .. => 0#32
  | .ldcImmediate .. => 0#32
  | .ldcLiteral .. => 0#32
  | .mcrr .. => 0#32
  | .mrrc .. => 0#32
  | .cpSpace1100000x .. => 0#32
  | .mcr .. => 0#32
  | .mrc .. => 0#32
  | .cdp .. => 0#32
  | .hypCps .. => 0x7E20#32
  | .hypMrs .. => 0x20FFF#32
  | .hypMsrImmediate .. => 0x20000#32
  | .hypMsrRegister .. => 0x20FF0#32
  | .hypRfe .. => 0x7FF0#32
  | .hypSrs .. => 0x7FE0#32
  | .hypWfi .. => 0x3FFFF#32
  | .hypSubid7 .. => 0#32
  | .hypLdmExceptionReturn .. => 0#32
  | .hypLdmUserRegisters .. => 0#32
  | .hypStmUserRegisters .. => 0#32
  | .hypAndsPcImmediate .. => 0#32
  | .hypAndsPcRegister .. => 0#32
  | .hypEorsPcImmediate .. => 0#32
  | .hypEorsPcRegister .. => 0#32
  | .hypSubsPcImmediate .. => 0#32
  | .hypSubsPcRegister .. => 0#32
  | .hypRsbsPcImmediate .. => 0#32
  | .hypRsbsPcRegister .. => 0#32
  | .hypAddsPcImmediate .. => 0#32
  | .hypAddsPcRegister .. => 0#32
  | .hypAdcsPcImmediate .. => 0#32
  | .hypAdcsPcRegister .. => 0#32
  | .hypSbcsPcImmediate .. => 0#32
  | .hypSbcsPcRegister .. => 0#32
  | .hypRscsPcImmediate .. => 0#32
  | .hypRscsPcRegister .. => 0#32
  | .hypOrrsPcImmediate .. => 0#32
  | .hypOrrsPcRegister .. => 0#32
  | .hypMovsPcImmediate .. => 0#32
  | .hypMovsPcRegister .. => 0#32
  | .hypBicsPcImmediate .. => 0#32
  | .hypBicsPcRegister .. => 0#32
  | .hypMvnsPcImmediate .. => 0#32
  | .hypMvnsPcRegister .. => 0#32

end Sys2Proof
end

