-- ==== Sys2Proof/Machine/BitOps.lean ====
section
/-! DEFINITION. The unit *BitOps* of 40_functional_units.md, R130 to R134. -/

namespace Sys2Proof.Machine

/-- `bits(w, hi, lo)`, R130: the unsigned value of bits `hi` down to `lo`. -/
def bits (w : Word) (hi lo : Nat) : Nat := w.toNat / 2 ^ lo % 2 ^ (hi + 1 - lo)

/-- `bit(w, n)`, R130. -/
def bit (w : Word) (n : Nat) : Nat := bits w n n

/-- The number of set bits among the low `k` bits of `w`. -/
def bitcountBelow {n : Nat} (w : BitVec n) : Nat → Nat
  | 0 => 0
  | k + 1 => bitcountBelow w k + (if w.getLsbD k then 1 else 0)

/-- `bitcount(w)`, R131. -/
def bitcount {n : Nat} (w : BitVec n) : Nat := bitcountBelow w n

/-- `sext_8`, R132. -/
def sext8 (v : Word) : Word := (v.setWidth 8).signExtend 32

/-- `sext_16`, R132. -/
def sext16 (v : Word) : Word := (v.setWidth 16).signExtend 32

/-- `zext_8`, R133. -/
def zext8 (v : Word) : Word := (v.setWidth 8).setWidth 32

/-- `zext_16`, R133. -/
def zext16 (v : Word) : Word := (v.setWidth 16).setWidth 32

/-- `align(a, 4)`, R134: rounds down to a multiple of 4. -/
def align4 (a : Word) : Word := a - a % 4#32

end Sys2Proof.Machine
end

