-- ==== Sys2Proof/Machine/Mode.lean ====
section
/-! DEFINITION. The seven modes (R31), the 30 physical general registers and which of them each mode names (R21). -/

namespace Sys2Proof.Machine

/-- The seven legal modes, R31. -/
inductive Mode where
  /-- User, `0b10000`, unprivileged. -/
  | usr
  /-- FIQ, `0b10001`. -/
  | fiq
  /-- IRQ, `0b10010`. -/
  | irq
  /-- Supervisor, `0b10011`. -/
  | svc
  /-- Abort, `0b10111`. -/
  | abt
  /-- Undefined, `0b11011`. -/
  | und
  /-- System, `0b11111`. -/
  | sys
  deriving DecidableEq, Repr

/-- The mode a 5-bit mode field names, if it is legal (R31; encodings other than User and Supervisor: log 22). -/
def modeOfBits (b : BitVec 5) : Option Mode :=
  if b = 0x10#5 then some .usr
  else if b = 0x11#5 then some .fiq
  else if b = 0x12#5 then some .irq
  else if b = 0x13#5 then some .svc
  else if b = 0x17#5 then some .abt
  else if b = 0x1B#5 then some .und
  else if b = 0x1F#5 then some .sys
  else none

/-- The mode field of a mode (R31). -/
def modeBits : Mode → BitVec 5
  | .usr => 0x10#5
  | .fiq => 0x11#5
  | .irq => 0x12#5
  | .svc => 0x13#5
  | .abt => 0x17#5
  | .und => 0x1B#5
  | .sys => 0x1F#5

/-- The mode field of a status register, bits 4:0 (R30). -/
def modeField (psr : Word) : BitVec 5 := psr.extractLsb' 0 5

/-- The mode field of this status value is one of the seven legal modes (R31, R33). -/
def legalMode (psr : Word) : Bool := (modeOfBits (modeField psr)).isSome

/-- `HasSpsr`, R31: the mode has a saved status register. -/
def hasSpsr : Mode → Bool
  | .usr => false
  | .sys => false
  | .fiq => true
  | .irq => true
  | .svc => true
  | .abt => true
  | .und => true

/-- The 30 physical general registers besides the PC, R21. -/
inductive PReg where
  | r0usr | r1usr | r2usr | r3usr | r4usr | r5usr | r6usr | r7usr
  | r8usr | r9usr | r10usr | r11usr | r12usr | r13usr | r14usr
  | r8fiq | r9fiq | r10fiq | r11fiq | r12fiq | r13fiq | r14fiq
  | r13irq | r14irq | r13svc | r14svc | r13abt | r14abt | r13und | r14und
  deriving DecidableEq, Repr

/-- The place of a physical register in `State.regs`. -/
def pregIdx : PReg → Fin 30
  | .r0usr => 0 | .r1usr => 1 | .r2usr => 2 | .r3usr => 3 | .r4usr => 4 | .r5usr => 5 | .r6usr => 6 | .r7usr => 7
  | .r8usr => 8 | .r9usr => 9 | .r10usr => 10 | .r11usr => 11 | .r12usr => 12 | .r13usr => 13 | .r14usr => 14
  | .r8fiq => 15 | .r9fiq => 16 | .r10fiq => 17 | .r11fiq => 18 | .r12fiq => 19 | .r13fiq => 20 | .r14fiq => 21
  | .r13irq => 22 | .r14irq => 23 | .r13svc => 24 | .r14svc => 25 | .r13abt => 26 | .r14abt => 27
  | .r13und => 28 | .r14und => 29

/-- The User and System column of R21. -/
def userBank (n : RegIdx) : Option PReg :=
  match n.toNat with
  | 0 => some .r0usr | 1 => some .r1usr | 2 => some .r2usr | 3 => some .r3usr
  | 4 => some .r4usr | 5 => some .r5usr | 6 => some .r6usr | 7 => some .r7usr
  | 8 => some .r8usr | 9 => some .r9usr | 10 => some .r10usr | 11 => some .r11usr
  | 12 => some .r12usr | 13 => some .r13usr | 14 => some .r14usr
  | _ => none

/-- The FIQ column of R21. -/
def fiqBank (n : RegIdx) : Option PReg :=
  match n.toNat with
  | 8 => some .r8fiq | 9 => some .r9fiq | 10 => some .r10fiq | 11 => some .r11fiq
  | 12 => some .r12fiq | 13 => some .r13fiq | 14 => some .r14fiq
  | _ => userBank n

/-- A column of R21 in which only registers 13 and 14 are the mode's own. -/
def stackBank (sp lr : PReg) (n : RegIdx) : Option PReg :=
  match n.toNat with
  | 13 => some sp
  | 14 => some lr
  | _ => userBank n

/-- The banking table of R21: the physical register that index `n` names in mode `m`; none for index 15, the PC (log 22). -/
def bank (m : Mode) (n : RegIdx) : Option PReg :=
  match m with
  | .usr => userBank n
  | .sys => userBank n
  | .fiq => fiqBank n
  | .irq => stackBank .r13irq .r14irq n
  | .svc => stackBank .r13svc .r14svc n
  | .abt => stackBank .r13abt .r14abt n
  | .und => stackBank .r13und .r14und n

end Sys2Proof.Machine
end

