-- ==== Sys2Proof/Machine/Port.lean ====
section
/-! DEFINITION. What crosses the block's ports (R40 to R46): accesses, coprocessor-hook calls, the ordered events of an invocation and the
four result kinds. -/

namespace Sys2Proof.Machine

/-- The sizes of a guest-memory call, R62. -/
inductive Size where
  /-- 1 byte. -/
  | byte
  /-- 2 bytes. -/
  | half
  /-- 4 bytes. -/
  | word
  deriving DecidableEq, Repr

/-- The number of bytes of a size (R62). -/
def sizeBytes : Size → Nat
  | .byte => 1
  | .half => 2
  | .word => 4

/-- `v mod 2^(8n)`, R63. -/
def truncateTo : Size → Word → Word
  | .byte, v => (v.setWidth 8).setWidth 32
  | .half, v => (v.setWidth 16).setWidth 32
  | .word, v => v

/-- The four calls of the guest-memory port, R42. -/
inductive AccessKind where
  /-- `mem_read`, R62. -/
  | read
  /-- `mem_write`, R63. -/
  | write
  /-- `mem_read_exclusive`, R65. -/
  | readExclusive
  /-- `mem_write_exclusive`, R65. -/
  | writeExclusive
  deriving DecidableEq, Repr

/-- One call of the guest-memory port with its arguments (R62 to R65), and the mode the port can see (R435). -/
structure PortAccess where
  /-- The address, unchanged (R67). -/
  addr : Word
  /-- The size. -/
  size : Size
  /-- Which of the four calls. -/
  kind : AccessKind
  /-- `user_priv`, R64. -/
  userPriv : Bool
  /-- The current mode. -/
  mode : Mode
  /-- The value written; 0 for a read. -/
  value : Word
  deriving DecidableEq, Repr

/-- A call of a coprocessor hook with its arguments, R322. -/
inductive HookCall where
  /-- `read`, by MRC. -/
  | read (opc1 opc2 : BitVec 3) (crn crm : BitVec 4)
  /-- `write`, by MCR. -/
  | write (opc1 opc2 : BitVec 3) (crn crm : BitVec 4) (value : Word)
  /-- `read2`, by MRRC. -/
  | read2 (opc1 crm : BitVec 4)
  /-- `write2`, by MCRR. -/
  | write2 (opc1 crm : BitVec 4) (w1 w2 : Word)
  /-- `data_process`, by CDP. -/
  | dataProcess (opc1 : BitVec 4) (opc2 : BitVec 3) (crd crn crm : BitVec 4)
  /-- `ldcstc_accept`, by LDC and STC. -/
  | ldcstcAccept (d : Bool) (crd : BitVec 4) (uopt : Bool) (imm8 : BitVec 8)
  /-- `ldcstc_done` for word number `n`. -/
  | ldcstcDone (n : Nat) (d : Bool) (crd : BitVec 4) (uopt : Bool) (imm8 : BitVec 8)
  /-- `ldcstc_read` of word number `n`, by STC. -/
  | ldcstcRead (n : Nat) (d : Bool) (crd : BitVec 4) (uopt : Bool) (imm8 : BitVec 8)
  /-- `ldcstc_write` of word number `n`, by LDC. -/
  | ldcstcWrite (n : Nat) (d : Bool) (crd : BitVec 4) (uopt : Bool) (imm8 : BitVec 8) (word : Word)
  deriving DecidableEq, Repr

/-- A port event (R40). The hook calls are listed in place among the others (log 14). -/
inductive Event where
  /-- `Read(addr, n, priv or user)`, R62, R64. -/
  | read (addr : Word) (size : Size) (user : Bool)
  /-- `Write(addr, n, v, priv or user)`, R63, R64. -/
  | write (addr : Word) (size : Size) (value : Word) (user : Bool)
  /-- `ReadX(addr, 4)`, R65. -/
  | readX (addr : Word)
  /-- `WriteX(addr, 4, v)`, R65. -/
  | writeX (addr value : Word)
  /-- `Range(start, len)`, R70. -/
  | range (start : Word) (len : Nat)
  /-- A call of a hook of coprocessor `n`, R45. -/
  | hook (n : BitVec 4) (call : HookCall)
  /-- `IrqWait`, R43. -/
  | irqWait
  /-- `IrqAssert(line, arg)`, R43. -/
  | irqAssert (line arg : Nat)
  /-- `IrqDeassert`, R43. -/
  | irqDeassert
  /-- `Halt`, R44. -/
  | halt
  deriving DecidableEq, Repr

/-- Why an invocation is refused: the reason string of R423 as a name, informative only (log 20). -/
inductive Reason where
  /-- The word selects no instruction (cause 1 of R425). -/
  | unmapped (why : DecodeReject)
  /-- The media space, R272. -/
  | media
  /-- B or BL, R307, R308. -/
  | branch
  /-- A native block transfer with `S = 1`, R306. -/
  | nativeS
  /-- Coprocessor 10 or 11, R321. -/
  | vfpSimd
  /-- The cell `1100 000x`, R333. -/
  | coprocessorCell
  /-- `SUBID = 7`, R359. -/
  | reservedHypercall
  /-- LDRD or STRD with `P = 0, W = 1`, R223. -/
  | doublewordP0W1
  /-- A register combination the instruction refuses (cause 3 of R425). -/
  | registers
  /-- Refused in the current mode (cause 4 of R425). -/
  | mode
  /-- An illegal mode field about to be written, or an illegal target mode of SRS (cause 5 of R425). -/
  | illegalMode
  deriving DecidableEq, Repr

/-- The four result kinds of an invocation, R420. -/
inductive ResultKind where
  /-- R421. -/
  | ok
  /-- R422: the port's non-zero code, verbatim. -/
  | guestFault (code : Nat)
  /-- R423. -/
  | unpredictable (why : Reason)
  /-- R424. -/
  | undefInjected
  deriving DecidableEq, Repr

/-- The status code of a result kind, R420 (the spec's own numbers, D30). -/
def statusCode : ResultKind → Nat
  | .ok => 0
  | .guestFault _ => 1
  | .unpredictable _ => 2
  | .undefInjected => 3

end Sys2Proof.Machine
end

