-- ==== Sys2Proof/Config.lean ====
section
/-! DEFINITION. What the spec leaves to the platform (R6, U30) and the free values of the environment (U13, U15 to U17): constants with no
body, so that nothing in Lean can evaluate them. -/

namespace Sys2Proof

/-- `IRQ_LINE_UNDEF`, R6, R424: a parameter the source gives no value for (log 16). -/
opaque Config.irqLineUndef : Nat

/-- `IRQ_ARG_UNDEF`, R6, R424: a parameter the source gives no value for (log 16). -/
opaque Config.irqArgUndef : Nat

/-- The code an external memory port returns for its call at a tick: 0 is success (R62, R66, U15, U16; log 6). -/
opaque Config.portCode : Nat → Machine.PortAccess → Nat

/-- The word an external memory port answers a read with, before the size is applied (U16; log 6). -/
opaque Config.portData : Nat → Machine.PortAccess → Word

/-- Whether an external memory port performs an exclusive store (R65, U17; log 6). -/
opaque Config.portExclusiveDone : Nat → Machine.PortAccess → Bool

/-- What an external `read` hook answers: a word, or declined (R322, U13; log 8). -/
opaque Config.hookWord : Nat → BitVec 4 → Machine.HookCall → Option Word

/-- What an external `read2` hook answers: two words, or declined (R322, U13; log 8). -/
opaque Config.hookPair : Nat → BitVec 4 → Machine.HookCall → Option (Word × Word)

/-- What an external hook that answers yes or no answers: `write`, `write2`, `data_process`, `ldcstc_accept`, `ldcstc_done` (R322; log 8). -/
opaque Config.hookAnswer : Nat → BitVec 4 → Machine.HookCall → Bool

/-- The word an external `ldcstc_read` hook supplies (R322, U13; log 8). -/
opaque Config.hookData : Nat → BitVec 4 → Machine.HookCall → Word

/-- The form that the hypercall layout of another build reads in a condition and a 24-bit payload, if any (R6, R350, U30; log 17). -/
opaque Config.hypForm : Nat → BitVec 4 → BitVec 24 → Option Instr

end Sys2Proof
end

