-- ==== Sys2Proof/Machine/Memory.lean ====
section
/-! DEFINITION. Sparse maps in one canonical form, and guest memory as one of them (R60, R61, R81): keys strictly rising, no entry equal to
what an unlisted key reads as. Guest memory's unlisted bytes read 0 (log 1). -/

namespace Sys2Proof.Machine

/-- The value at key `k`; an unlisted key reads `d`. -/
def cellsRead {V : Type} (d : V) : List (Nat × V) → Nat → V
  | [], _ => d
  | (k', v') :: rest, k => if k = k' then v' else cellsRead d rest k

/-- Write `v` at key `k`, keeping the canonical form: writing `d` removes the entry. -/
def cellsWrite {V : Type} [DecidableEq V] (d : V) : List (Nat × V) → Nat → V → List (Nat × V)
  | [], k, v => if v = d then [] else [(k, v)]
  | (k', v') :: rest, k, v =>
    if k < k' then (if v = d then (k', v') :: rest else (k, v) :: (k', v') :: rest)
    else if k = k' then (if v = d then rest else (k, v) :: rest)
    else (k', v') :: cellsWrite d rest k v

/-- The canonical form: keys rise strictly from `lo` and stay below `bound`, and no entry holds `d`. -/
def cellsWf {V : Type} [DecidableEq V] (d : V) (bound : Nat) : Nat → List (Nat × V) → Bool
  | _, [] => true
  | lo, (k, v) :: rest => decide (lo ≤ k) && decide (k < bound) && decide (v ≠ d) && cellsWf d bound (k + 1) rest

/-- Guest memory: the listed bytes of the 2^32 (R60). -/
abbrev Memory := List Host.Cell

/-- What a byte that nothing has written reads as: 0 (R48, R81; log 1). -/
def unlistedByte : Byte := 0#8

/-- The canonical form of guest memory. -/
def Memory.wf (m : Memory) : Bool := cellsWf unlistedByte (2 ^ 32) 0 m

/-- One byte of guest memory. -/
def Memory.read8 (m : Memory) (a : Word) : Byte := cellsRead unlistedByte m a.toNat

/-- Write one byte of guest memory. -/
def Memory.write8 (m : Memory) (a : Word) (v : Byte) : Memory := cellsWrite unlistedByte m a.toNat v

/-- The little-endian halfword at `a`, any alignment (R61, R67). -/
def Memory.read16 (m : Memory) (a : Word) : BitVec 16 := m.read8 (a + 1#32) ++ m.read8 a

/-- The little-endian word at `a`, any alignment, wrapping at the top (R61, R67). -/
def Memory.read32 (m : Memory) (a : Word) : Word :=
  wordOfBytes (m.read8 a) (m.read8 (a + 1#32)) (m.read8 (a + 2#32)) (m.read8 (a + 3#32))

/-- Write the low halfword of `v` little-endian at `a`. -/
def Memory.write16 (m : Memory) (a : Word) (v : Word) : Memory :=
  (m.write8 a (byteOfWord v 0)).write8 (a + 1#32) (byteOfWord v 1)

/-- Write the word `v` little-endian at `a`. -/
def Memory.write32 (m : Memory) (a : Word) (v : Word) : Memory :=
  (((m.write8 a (byteOfWord v 0)).write8 (a + 1#32) (byteOfWord v 1)).write8 (a + 2#32) (byteOfWord v 2)).write8 (a + 3#32)
    (byteOfWord v 3)

end Sys2Proof.Machine
end

