-- ==== Sys2Proof/Machine/State.lean ====
section
/-! DEFINITION. The machine's state as plain data: the vCPU state of 10_state.md, the environment the ports show the block, and the result
and events of the last invocation. Every field and its reset value is a line of INVENTORY.md. -/

namespace Sys2Proof.Machine

/-- The five saved program status registers, R35. -/
structure SpsrBank where
  /-- `spsr_fiq` -/
  fiq : Word
  /-- `spsr_irq` -/
  irq : Word
  /-- `spsr_svc` -/
  svc : Word
  /-- `spsr_abt` -/
  abt : Word
  /-- `spsr_und` -/
  und : Word
  deriving DecidableEq, Repr

/-- An address a vector names as faulting (R81, R66): an access of a named kind and privilege that touches the byte gets the code. -/
structure FaultRule where
  /-- The faulting byte. -/
  addr : Word
  /-- Reads fault. -/
  onRead : Bool
  /-- Writes fault. -/
  onWrite : Bool
  /-- Accesses with user privilege fault. -/
  onUser : Bool
  /-- Accesses with the privilege of a privileged mode fault. -/
  onPriv : Bool
  /-- The code returned; 0 names no fault. -/
  code : Nat
  deriving DecidableEq, Repr

/-- Who answers the guest-memory port (R42, R79). -/
inductive MemPort where
  /-- The reference memory of R81 with the faulting addresses a vector names, and the answer it gives to exclusive stores. -/
  | reference (faults : List FaultRule) (exclusiveDone : Bool)
  /-- A platform the spec says nothing of: its answers are free values (U15 to U17; log 6). -/
  | external
  deriving DecidableEq, Repr

/-- The reference coprocessor's registers, R335. -/
structure RefCop where
  /-- `reg`, keyed by `opc1, opc2, CRn, CRm`; unlisted keys read 0. -/
  reg : List (Nat × Word)
  /-- `pair`, keyed by `opc1, CRm`; unlisted keys read (0, 0). -/
  pair : List (Nat × (Word × Word))
  /-- `w[0..31]`. -/
  w : Vector Word 32
  deriving DecidableEq, Repr

/-- Which of the nine optional hooks a coprocessor object has, R45. -/
structure Hooks where
  read : Bool
  write : Bool
  read2 : Bool
  write2 : Bool
  dataProcess : Bool
  ldcstcAccept : Bool
  ldcstcDone : Bool
  ldcstcRead : Bool
  ldcstcWrite : Bool
  deriving DecidableEq, Repr

/-- What answers a coprocessor object's hooks. -/
inductive CopUnit where
  /-- The reference coprocessor, R335. -/
  | reference (cop : RefCop)
  /-- A coprocessor the spec says nothing of: its answers are free values (U13; log 8), with the bound on an LDC or STC loop that R469
  makes a parameter of the coprocessor (log 9). -/
  | external (loopBound : Nat)
  deriving DecidableEq, Repr

/-- A coprocessor object of the registry, R45. -/
structure CopObject where
  /-- The hooks it has. -/
  hooks : Hooks
  /-- What answers them. -/
  unit : CopUnit
  deriving DecidableEq, Repr

/-- The state of the machine. -/
structure State where
  /-- The 30 physical general registers, R21. -/
  regs : Vector Word 30
  /-- The program counter, R26. -/
  pc : Word
  /-- The current program status register, R30. -/
  cpsr : Word
  /-- The saved program status registers, R35. -/
  spsr : SpsrBank
  /-- The vCPU has been halted, R44. -/
  halted : Bool
  /-- Guest memory, R60. -/
  mem : Memory
  /-- Who answers the guest-memory port, R42. -/
  port : MemPort
  /-- The coprocessor registry, R45. -/
  coprocs : Vector (Option CopObject) 16
  /-- `TTBL_MIN_PAGE_SIZE`, R6, R70. -/
  ttblMinPageSize : Nat
  /-- `HYP_LAYOUT`, R6, R350. -/
  hypLayout : HypLayout
  /-- The hypercall flag of the command port, R46. -/
  hyp : Bool
  /-- The MODEL's own field: the port and hook calls made so far, which the free values are applied to (log 10). -/
  envTick : Nat
  /-- The port events of the last invocation, in order, R40. -/
  events : List Event
  /-- The result kind of the last invocation, R46, R420; none before the first has ended. -/
  result : Option ResultKind
  deriving DecidableEq, Repr

/-- Why the machine stops with a fault. -/
inductive Fault where
  /-- Raised by LDC and STC when the coprocessor has not ended the transfer within its bound (R469, U14: the invocation does not end).
  Safe: the machine stops where the hardware goes on. -/
  | endlessTransfer
  deriving DecidableEq, Repr

/-- Why the machine gives no next state. -/
inductive Refusal where
  /-- Raised by `exec` for an instruction with no meaning yet. Safe: no state follows. -/
  | notModelled (mnemonic : String)
  /-- Raised by `step` on a halted vCPU: outside the spec (R44, U29). Safe: a precondition. -/
  | vcpuHalted
  /-- Raised by `step` when the mode field is illegal: outside the spec (R463 (a)). Safe: a precondition. -/
  | illegalMode
  /-- Raised by `step` when `TTBL_MIN_PAGE_SIZE` is not a power of two of at least 64: outside the spec (R463 (d)). Safe: a
  precondition. -/
  | badPageSize
  deriving DecidableEq, Repr

/-- The reference coprocessor's registers at reset, R335, R461: every `reg` and every word of every `pair` reads 0, `w[0..31]` are 0. -/
def RefCop.reset : RefCop where
  reg := []
  pair := []
  w := Vector.replicate 32 0#32

/-- A coprocessor object with all nine hooks, as the reference coprocessor has them (R45, R335). -/
def Hooks.all : Hooks := ⟨true, true, true, true, true, true, true, true, true⟩

/-- The reference coprocessor as an object of the registry, at its reset value (R335, R461, R466). -/
def CopObject.referenceReset : CopObject := ⟨Hooks.all, .reference RefCop.reset⟩

/-- The machine right after reset, R48, R461: every register 0, User mode, the SPSRs 0x10, memory 0; the reference memory behind the port,
no coprocessor, the page size 4096 and the layout H0 of R6 (log 1 to 5, 7, 10, 11, 13, 15, 17). -/
def State.reset : State where
  regs := Vector.replicate 30 0#32
  pc := 0#32
  cpsr := 0x00000010#32
  spsr := ⟨0x00000010#32, 0x00000010#32, 0x00000010#32, 0x00000010#32, 0x00000010#32⟩
  halted := false
  mem := []
  port := .reference [] true
  coprocs := Vector.replicate 16 none
  ttblMinPageSize := 4096
  hypLayout := .h0
  hyp := false
  envTick := 0
  events := []
  result := none

end Sys2Proof.Machine
end

