-- ==== Sys2Proof/Machine/Ops.lean ====
section
/-! DEFINITION. The named operations over State: register and status-register access (R20 to R36), the endings of an invocation (R420 to
R424), the exception return (R386), the memory port (R60 to R71), the loops of the block transfers (R291) and the coprocessor hooks (R322). -/

namespace Sys2Proof.Machine

/-- What a meaning answers. -/
abbrev Out := Host.Outcome State Fault Refusal

/-! ### Registers -/

/-- The current mode, R31. An illegal mode field, which `step` refuses, acts as User (log 26). -/
def State.mode (s : State) : Mode := (modeOfBits (modeField s.cpsr)).getD .usr

/-- A physical register. -/
def State.reg (s : State) (p : PReg) : Word := s.regs[pregIdx p]

/-- Write a physical register. -/
def State.setReg (s : State) (p : PReg) (v : Word) : State := { s with regs := s.regs.set (pregIdx p).val v (pregIdx p).isLt }

/-- `xm[m, i]`, R23; index 15 reads `pc + 8`, R27. -/
def State.xm (s : State) (m : Mode) (n : RegIdx) : Word :=
  match bank m n with
  | some p => s.reg p
  | none => s.pc + 8#32

/-- `xm[m, i] <- v`, R23. No rule writes index 15 this way (R22; log 24). -/
def State.setXm (s : State) (m : Mode) (n : RegIdx) (v : Word) : State :=
  match bank m n with
  | some p => s.setReg p v
  | none => s

/-- `x[i]`, R22, R27. -/
def State.x (s : State) (n : RegIdx) : Word := s.xm s.mode n

/-- `x[i] <- v`, R22. -/
def State.setX (s : State) (n : RegIdx) (v : Word) : State := s.setXm s.mode n v

/-- `x[Rn] <- v` when the write-back flag is set (step 7 of R221). -/
def State.writeBack (s : State) (wback : Bool) (rn : RegIdx) (v : Word) : State := if wback then s.setX rn v else s

/-! ### Status registers -/

/-- The N flag, bit 31 (R30). -/
def flagN (psr : Word) : Bool := psr.getLsbD 31

/-- The Z flag, bit 30 (R30). -/
def flagZ (psr : Word) : Bool := psr.getLsbD 30

/-- The C flag, bit 29 (R30). -/
def flagC (psr : Word) : Bool := psr.getLsbD 29

/-- The V flag, bit 28 (R30). -/
def flagV (psr : Word) : Bool := psr.getLsbD 28

/-- A status value with new N, Z, C and V; bits 27:0 stay (R182). -/
def withFlags (psr : Word) (n z c v : Bool) : Word :=
  BitVec.ofBool n ++ BitVec.ofBool z ++ BitVec.ofBool c ++ BitVec.ofBool v ++ psr.extractLsb' 0 28

/-- `(old & ~mask) | (value & mask)`, R33, R35. -/
def mergeBits (old value mask : Word) : Word := (old &&& ~~~mask) ||| (value &&& mask)

/-- The bits of the CPSR that a User-mode write can change, R33. -/
def userWriteMask : Word := 0xF80F0000#32

/-- `CpsrUpdate(value, mask)`, R33: none when the new mode field would be illegal, before anything is written. -/
def State.cpsrUpdate (s : State) (value mask : Word) : Option State :=
  let m := if s.mode = .usr then mask &&& userWriteMask else mask
  let new := mergeBits s.cpsr value m
  if legalMode new then some { s with cpsr := new } else none

/-- The SPSR of a mode, R35; none where `HasSpsr` is false. -/
def State.spsrOf (s : State) : Mode → Option Word
  | .usr => none
  | .sys => none
  | .fiq => some s.spsr.fiq
  | .irq => some s.spsr.irq
  | .svc => some s.spsr.svc
  | .abt => some s.spsr.abt
  | .und => some s.spsr.und

/-- Write the SPSR of a mode, R35; nothing where `HasSpsr` is false. -/
def State.setSpsrOf (s : State) (m : Mode) (v : Word) : State :=
  match m with
  | .usr => s
  | .sys => s
  | .fiq => { s with spsr := { s.spsr with fiq := v } }
  | .irq => { s with spsr := { s.spsr with irq := v } }
  | .svc => { s with spsr := { s.spsr with svc := v } }
  | .abt => { s with spsr := { s.spsr with abt := v } }
  | .und => { s with spsr := { s.spsr with und := v } }

/-- `spsr`, the saved status register of the current mode (R35, R36). -/
def State.spsr? (s : State) : Option Word := s.spsrOf s.mode

/-! ### Endings of an invocation -/

/-- Append a port event, R40. -/
def State.emit (s : State) (e : Event) : State := { s with events := s.events ++ [e] }

/-- Append port events, R40. -/
def State.emitAll (s : State) (es : List Event) : State := { s with events := s.events ++ es }

/-- `AdvancePC(); return Ok`, R28, R421. -/
def advance (s : State) : Out := .next { s with pc := s.pc + 4#32, result := some .ok }

/-- `pc <- target; return Ok`, R28: verbatim, no alignment. -/
def branchTo (s : State) (target : Word) : Out := .next { s with pc := target, result := some .ok }

/-- `raise Unpredictable(why)`, R423: one Halt event, `halted` set, nothing else changes. -/
def refuse (s : State) (why : Reason) : Out :=
  .next { s with events := s.events ++ [.halt], halted := true, result := some (.unpredictable why) }

/-- `raise GuestFault(code)`, R422: what has taken effect stays, the PC stays. -/
def guestFault (s : State) (code : Nat) : Out := .next { s with result := some (.guestFault code) }

/-- `raise UndefInjected`, R424: one IrqAssert event, nothing else changes. The block enters no exception itself (R430; log 29). -/
def injectUndef (s : State) : Out :=
  .next { s with events := s.events ++ [.irqAssert Config.irqLineUndef Config.irqArgUndef], result := some .undefInjected }

/-- `cpsr <- saved; pc <- newpc; emit IrqDeassert; return Ok`, R386, R381: the return from an exception. -/
def exceptionReturn (s : State) (saved newpc : Word) : Out :=
  .next { s with cpsr := saved, pc := newpc, events := s.events ++ [.irqDeassert], result := some .ok }

/-- The refusals of an instruction, tested in order before anything else (step 2 of R103, R426). -/
def refusing (s : State) : List (Bool × Reason) → Out → Out
  | [], k => k
  | (hit, why) :: rest, k => if hit then refuse s why else refusing s rest k

/-! ### The guest-memory port -/

/-- The bytes of a call, wrapping at the top of the space (R8, R62). -/
def touches (a : PortAccess) (b : Word) : Bool := decide ((b - a.addr).toNat < sizeBytes a.size)

/-- The access is made with user privilege: forced (R64), or because the current mode is User (R62). -/
def userPrivilege (a : PortAccess) : Bool := a.userPriv || decide (a.mode = .usr)

/-- The access writes (R63, R65). -/
def writesMemory : AccessKind → Bool
  | .read => false
  | .readExclusive => false
  | .write => true
  | .writeExclusive => true

/-- A named faulting address answers this access with its code (R81; log 28). -/
def faultRuleFires (f : FaultRule) (a : PortAccess) : Bool :=
  touches a f.addr && (if writesMemory a.kind then f.onWrite else f.onRead) && (if userPrivilege a then f.onUser else f.onPriv)

/-- The code of the first faulting address that answers, 0 for none. -/
def faultCode : List FaultRule → PortAccess → Nat
  | [], _ => 0
  | f :: rest, a => if faultRuleFires f a && f.code != 0 then f.code else faultCode rest a

/-- The code the port returns for an access: 0 is success (R62, R63, R66). -/
def State.portCode (s : State) (a : PortAccess) : Nat :=
  match s.port with
  | .reference faults _ => faultCode faults a
  | .external => Config.portCode s.envTick a

/-- The bytes of guest memory at an address, little-endian, zero-extended (R62). -/
def Memory.readSize (m : Memory) (a : Word) : Size → Word
  | .byte => (m.read8 a).setWidth 32
  | .half => (m.read16 a).setWidth 32
  | .word => m.read32 a

/-- Write the low bytes of `v`, little-endian (R63). -/
def Memory.writeSize (m : Memory) (a : Word) (v : Word) : Size → Memory
  | .byte => m.write8 a (byteOfWord v 0)
  | .half => m.write16 a v
  | .word => m.write32 a v

/-- The value a successful read yields (R62). -/
def State.portData (s : State) (a : PortAccess) : Word :=
  match s.port with
  | .reference _ _ => s.mem.readSize a.addr a.size
  | .external => truncateTo a.size (Config.portData s.envTick a)

/-- Whether the port performs an exclusive store (R65, R81). -/
def State.portExclusiveDone (s : State) (a : PortAccess) : Bool :=
  match s.port with
  | .reference _ done => done
  | .external => Config.portExclusiveDone s.envTick a

/-- One call of a port: its event, and one tick of the environment. -/
def State.called (s : State) (e : Event) : State := { s with events := s.events ++ [e], envTick := s.envTick + 1 }

/-- The answer of a port call: a value with the state after it, or a non-zero code with the state after it. -/
inductive PortResult (α : Type) where
  | ok (v : α) (s : State)
  | err (code : Nat) (s : State)

/-- Go on with the value, or raise GuestFault with the code (R422). -/
def PortResult.orFault {α : Type} (r : PortResult α) (k : α → State → Out) : Out :=
  match r with
  | .ok v s => k v s
  | .err code s => guestFault s code

/-- Go on to another port call with the value, or keep the code. -/
def PortResult.andThen {α β : Type} (r : PortResult α) (k : α → State → PortResult β) : PortResult β :=
  match r with
  | .ok v s => k v s
  | .err code s => .err code s

/-- The call that `MemRead` makes. -/
def State.readAccess (s : State) (addr : Word) (size : Size) (user : Bool) : PortAccess :=
  ⟨addr, size, .read, user, s.mode, 0#32⟩

/-- `MemRead(addr, n)` and `MemReadU(addr, n)`, R62, R64. -/
def memRead (s : State) (addr : Word) (size : Size) (user : Bool) : PortResult Word :=
  let a := s.readAccess addr size user
  let s' := s.called (.read addr size user)
  if s.portCode a = 0 then .ok (s.portData a) s' else .err (s.portCode a) s'

/-- The call that `MemWrite` makes. -/
def State.writeAccess (s : State) (addr : Word) (size : Size) (v : Word) (user : Bool) : PortAccess :=
  ⟨addr, size, .write, user, s.mode, truncateTo size v⟩

/-- `MemWrite(addr, n, v)` and `MemWriteU(addr, n, v)`, R63, R64. -/
def memWrite (s : State) (addr : Word) (size : Size) (v : Word) (user : Bool) : PortResult Unit :=
  let a := s.writeAccess addr size v user
  let s' := s.called (.write addr size (truncateTo size v) user)
  if s.portCode a = 0 then .ok () { s' with mem := s.mem.writeSize addr v size } else .err (s.portCode a) s'

/-- The call that `MemReadX` makes. -/
def State.readExclusiveAccess (s : State) (addr : Word) : PortAccess := ⟨addr, .word, .readExclusive, false, s.mode, 0#32⟩

/-- `MemReadX(addr, 4)`, R65. -/
def memReadX (s : State) (addr : Word) : PortResult Word :=
  let a := s.readExclusiveAccess addr
  let s' := s.called (.readX addr)
  if s.portCode a = 0 then .ok (s.portData a) s' else .err (s.portCode a) s'

/-- The call that `MemWriteX` makes. -/
def State.writeExclusiveAccess (s : State) (addr v : Word) : PortAccess := ⟨addr, .word, .writeExclusive, false, s.mode, v⟩

/-- `MemWriteX(addr, 4, v)`, R65: true for `done`, false for `not_exclusive`. -/
def memWriteX (s : State) (addr v : Word) : PortResult Bool :=
  let a := s.writeExclusiveAccess addr v
  let s' := s.called (.writeX addr v)
  if s.portCode a = 0 then
    if s.portExclusiveDone a then .ok true { s' with mem := s.mem.writeSize addr v .word } else .ok false s'
  else .err (s.portCode a) s'

/-! ### Block transfers -/

/-- The registers 0 to 14 in ascending order. -/
def lowRegisters : List RegIdx :=
  [0#4, 1#4, 2#4, 3#4, 4#4, 5#4, 6#4, 7#4, 8#4, 9#4, 10#4, 11#4, 12#4, 13#4, 14#4]

/-- Bit `n` of a register list. -/
def inList (regList : BitVec 16) (n : RegIdx) : Bool := regList.getLsbD n.toNat

/-- The registers 0 to 14 of a list, ascending (step 5 of R291). -/
def listedRegisters (regList : BitVec 16) : List RegIdx := lowRegisters.filter (inList regList)

/-- `length = 4 * bitcount(reg_list)`, R291. -/
def blockLength (regList : BitVec 16) : Nat := 4 * bitcount regList

/-- `BlockStart(P, U, base, length)`, R292: the `[+4]` is applied when `P == U` (R291). -/
def blockStart (p u : Bool) (base length : Word) : Word :=
  let low := if u then base else base - length
  if p == u then low + 4#32 else low

/-- The write-back value of a block transfer, R292. -/
def blockWriteBack (u : Bool) (base length : Word) : Word := if u then base + length else base - length

/-- The `Range` events of a transfer of `len` bytes from `start`, R70. -/
def rangeEvents (pageSize : Nat) (start : Word) (len : Nat) : List Event :=
  let k := pageSize - start.toNat % pageSize
  if len > 4 ∧ k < len then [.range start k, .range (start + BitVec.ofNat 32 k) (len - k)] else [.range start len]

/-- The loop of a load: each register of mode `m`'s bank gets the next word (R291, R295); yields the address after the last. -/
def loadRegisters (m : Mode) : List RegIdx → Word → State → PortResult Word
  | [], addr, s => .ok addr s
  | n :: rest, addr, s =>
    match memRead s addr .word false with
    | .ok v s' => loadRegisters m rest (addr + 4#32) (s'.setXm m n v)
    | .err code s' => .err code s'

/-- The loop of a store: the next word gets each register of mode `m`'s bank (R291, R295); yields the address after the last. -/
def storeRegisters (m : Mode) : List RegIdx → Word → State → PortResult Word
  | [], addr, s => .ok addr s
  | n :: rest, addr, s =>
    match memWrite s addr .word (s.xm m n) false with
    | .ok _ s' => storeRegisters m rest (addr + 4#32) s'
    | .err code s' => .err code s'

/-- The last word of a store: `pc + 8` when bit 15 is listed (R297). -/
def storePc (regList : BitVec 16) (addr : Word) (s : State) : PortResult Unit :=
  if inList regList 15#4 then memWrite s addr .word (s.x 15#4) false else .ok () s

/-! ### Coprocessor hooks -/

/-- `coproc_get(n)`, R45. -/
def State.cop (s : State) (n : BitVec 4) : Option CopObject := s.coprocs[n.toFin]

/-- The unit behind a registered coprocessor. -/
def State.copUnit (s : State) (n : BitVec 4) : CopUnit :=
  match s.cop n with
  | some o => o.unit
  | none => .external 0

/-- Change the unit behind a registered coprocessor. -/
def State.setCopUnit (s : State) (n : BitVec 4) (u : CopUnit) : State :=
  match s.cop n with
  | some o => { s with coprocs := s.coprocs.set n.toNat (some { o with unit := u }) n.isLt }
  | none => s

/-- The key of the reference coprocessor's `reg`, R335. -/
def regKey (opc1 opc2 : BitVec 3) (crn crm : BitVec 4) : Nat := (opc1 ++ opc2 ++ crn ++ crm).toNat

/-- The key of the reference coprocessor's `pair`, R335. -/
def pairKey (opc1 crm : BitVec 4) : Nat := (opc1 ++ crm).toNat

/-- The hook `read`, R322, R335: a word, or declined. -/
def hookRead (s : State) (n : BitVec 4) (opc1 opc2 : BitVec 3) (crn crm : BitVec 4) : Option Word × State :=
  let call := HookCall.read opc1 opc2 crn crm
  match s.copUnit n with
  | .reference r => (some (cellsRead 0#32 r.reg (regKey opc1 opc2 crn crm)), s.called (.hook n call))
  | .external _ => (Config.hookWord s.envTick n call, s.called (.hook n call))

/-- The hook `write`, R322, R335: done, or declined. -/
def hookWrite (s : State) (n : BitVec 4) (opc1 opc2 : BitVec 3) (crn crm : BitVec 4) (v : Word) : Bool × State :=
  let call := HookCall.write opc1 opc2 crn crm v
  match s.copUnit n with
  | .reference r =>
    (true, (s.called (.hook n call)).setCopUnit n
      (.reference { r with reg := cellsWrite 0#32 r.reg (regKey opc1 opc2 crn crm) v }))
  | .external _ => (Config.hookAnswer s.envTick n call, s.called (.hook n call))

/-- The hook `read2`, R322, R335: two words, or declined. -/
def hookRead2 (s : State) (n opc1 crm : BitVec 4) : Option (Word × Word) × State :=
  let call := HookCall.read2 opc1 crm
  match s.copUnit n with
  | .reference r => (some (cellsRead (0#32, 0#32) r.pair (pairKey opc1 crm)), s.called (.hook n call))
  | .external _ => (Config.hookPair s.envTick n call, s.called (.hook n call))

/-- The hook `write2`, R322, R335: done, or declined. -/
def hookWrite2 (s : State) (n opc1 crm : BitVec 4) (w1 w2 : Word) : Bool × State :=
  let call := HookCall.write2 opc1 crm w1 w2
  match s.copUnit n with
  | .reference r =>
    (true, (s.called (.hook n call)).setCopUnit n
      (.reference { r with pair := cellsWrite (0#32, 0#32) r.pair (pairKey opc1 crm) (w1, w2) }))
  | .external _ => (Config.hookAnswer s.envTick n call, s.called (.hook n call))

/-- `w[k]` of the reference coprocessor; an index above 31 reads 0, and no call makes one (R335; log 35). -/
def refCopWord (r : RefCop) (k : Nat) : Word := r.w.toArray.getD k 0#32

/-- `w[k] <- v` of the reference coprocessor; nothing for an index above 31 (R335; log 35). -/
def setRefCopWord (r : RefCop) (k : Nat) (v : Word) : RefCop := { r with w := r.w.setIfInBounds k v }

/-- The hook `data_process`, R322, R335: the reference coprocessor declines unless `opc1 = 0`, then adds. -/
def hookDataProcess (s : State) (n opc1 : BitVec 4) (opc2 : BitVec 3) (crd crn crm : BitVec 4) : Bool × State :=
  let call := HookCall.dataProcess opc1 opc2 crd crn crm
  match s.copUnit n with
  | .reference r =>
    if opc1 = 0#4 then
      (true, (s.called (.hook n call)).setCopUnit n
        (.reference (setRefCopWord r crd.toNat (refCopWord r crn.toNat + refCopWord r crm.toNat))))
    else (false, s.called (.hook n call))
  | .external _ => (Config.hookAnswer s.envTick n call, s.called (.hook n call))

/-- The operands every hook call of one LDC or STC carries, R322. -/
structure TransferArgs where
  /-- `D`, bit 22. -/
  d : Bool
  /-- `CRd`. -/
  crd : BitVec 4
  /-- `uopt`: the unindexed form, R323. -/
  uopt : Bool
  /-- `imm8`. -/
  imm8 : BitVec 8
  deriving DecidableEq, Repr

/-- The hook `ldcstc_accept`, R322, R335: the reference coprocessor accepts exactly `CRd < 8` and `uopt = 0`. -/
def hookAccept (s : State) (n : BitVec 4) (t : TransferArgs) : Bool × State :=
  let call := HookCall.ldcstcAccept t.d t.crd t.uopt t.imm8
  match s.copUnit n with
  | .reference _ => (decide (t.crd.toNat < 8) && !t.uopt, s.called (.hook n call))
  | .external _ => (Config.hookAnswer s.envTick n call, s.called (.hook n call))

/-- The hook `ldcstc_done` for word number `k`, R322, R335: the reference coprocessor moves 2 words, or 4 when `D = 1`. -/
def hookDone (s : State) (n : BitVec 4) (t : TransferArgs) (k : Nat) : Bool × State :=
  let call := HookCall.ldcstcDone k t.d t.crd t.uopt t.imm8
  match s.copUnit n with
  | .reference _ => (decide ((if t.d then 4 else 2) ≤ k), s.called (.hook n call))
  | .external _ => (Config.hookAnswer s.envTick n call, s.called (.hook n call))

/-- The hook `ldcstc_read` for word number `k`, R322, R335. -/
def hookTransferRead (s : State) (n : BitVec 4) (t : TransferArgs) (k : Nat) : Word × State :=
  let call := HookCall.ldcstcRead k t.d t.crd t.uopt t.imm8
  match s.copUnit n with
  | .reference r => (refCopWord r (t.crd.toNat + k), s.called (.hook n call))
  | .external _ => (Config.hookData s.envTick n call, s.called (.hook n call))

/-- The hook `ldcstc_write` for word number `k`, R322, R335; what an external coprocessor does with the word is its own (log 34). -/
def hookTransferWrite (s : State) (n : BitVec 4) (t : TransferArgs) (k : Nat) (v : Word) : State :=
  let call := HookCall.ldcstcWrite k t.d t.crd t.uopt t.imm8 v
  match s.copUnit n with
  | .reference r => (s.called (.hook n call)).setCopUnit n (.reference (setRefCopWord r (t.crd.toNat + k) v))
  | .external _ => s.called (.hook n call)

/-- The bound on the words of one LDC or STC, a parameter of the coprocessor (R469; log 9). The reference coprocessor moves at most 4. -/
def loopBound : CopUnit → Nat
  | .reference _ => 4
  | .external b => b

/-- How the loop of an LDC or STC ends. -/
inductive LoopResult where
  /-- `ldcstc_done` answered true. -/
  | finished (s : State)
  /-- A memory call returned a code. -/
  | faulted (code : Nat) (s : State)
  /-- The bound was reached and the coprocessor had not ended the transfer. -/
  | endless

/-- The loop of LDC, R323: `left` more words may be moved, `k` is the number of the next. -/
def ldcLoop (n : BitVec 4) (t : TransferArgs) : Nat → Nat → Word → State → LoopResult
  | 0, k, _, s => if (hookDone s n t k).1 then .finished (hookDone s n t k).2 else .endless
  | left + 1, k, addr, s =>
    if (hookDone s n t k).1 then .finished (hookDone s n t k).2
    else
      match memRead (hookDone s n t k).2 addr .word false with
      | .ok v s' => ldcLoop n t left (k + 1) (addr + 4#32) (hookTransferWrite s' n t k v)
      | .err code s' => .faulted code s'

/-- The loop of STC, R323. -/
def stcLoop (n : BitVec 4) (t : TransferArgs) : Nat → Nat → Word → State → LoopResult
  | 0, k, _, s => if (hookDone s n t k).1 then .finished (hookDone s n t k).2 else .endless
  | left + 1, k, addr, s =>
    if (hookDone s n t k).1 then .finished (hookDone s n t k).2
    else
      let r := hookTransferRead (hookDone s n t k).2 n t k
      match memWrite r.2 addr .word r.1 false with
      | .ok _ s' => stcLoop n t left (k + 1) (addr + 4#32) s'
      | .err code s' => .faulted code s'

end Sys2Proof.Machine
end

