-- ==== Sys2Proof/Machine/Flags.lean ====
section
/-! DEFINITION. The units *ALU* and *CondEval* (R146 to R152) and the flag rule of data processing (R182). -/

namespace Sys2Proof.Machine

/-- What the adder yields: the result, the carry out and the signed overflow. -/
structure AddResult where
  /-- `uresult` -/
  value : Word
  /-- `cout` -/
  carry : Bool
  /-- `vout` -/
  overflow : Bool
  deriving DecidableEq, Repr

/-- `AddWithCarry(x, y, cin)`, R146: both sums exact, then compared with the narrowed result. -/
def addWithCarry (x y : Word) (cin : Bool) : AddResult :=
  let usum : Nat := x.toNat + y.toNat + cin.toNat
  let ssum : Int := x.toInt + y.toInt + (cin.toNat : Int)
  let uresult := BitVec.ofNat 32 usum
  ⟨uresult, decide (uresult.toNat ≠ usum), decide (uresult.toInt ≠ ssum)⟩

/-- The twelve operations of the ALU, R149. -/
inductive AluOp where
  | and | eor | sub | rsb | add | adc | sbc | rsc | orr | mov | bic | mvn
  deriving DecidableEq, Repr

/-- What an ALU operation yields, R149; `overflow = none` leaves V alone. -/
structure AluResult where
  /-- The result. -/
  value : Word
  /-- The carry. -/
  carry : Bool
  /-- The overflow of an arithmetic operation. -/
  overflow : Option Bool
  deriving DecidableEq, Repr

/-- A logical operation's result: the carry is the shifter's, V is left (R149). -/
def logicalResult (v : Word) (sc : Bool) : AluResult := ⟨v, sc, none⟩

/-- An arithmetic operation's result: carry and overflow are the adder's (R149). -/
def arithResult (r : AddResult) : AluResult := ⟨r.value, r.carry, some r.overflow⟩

/-- `AluOp(opcode, a, b, C, sc)`, R149. -/
def alu (op : AluOp) (a b : Word) (c sc : Bool) : AluResult :=
  match op with
  | .and => logicalResult (a &&& b) sc
  | .eor => logicalResult (a ^^^ b) sc
  | .sub => arithResult (addWithCarry a (~~~b) true)
  | .rsb => arithResult (addWithCarry (~~~a) b true)
  | .add => arithResult (addWithCarry a b false)
  | .adc => arithResult (addWithCarry a b c)
  | .sbc => arithResult (addWithCarry a (~~~b) c)
  | .rsc => arithResult (addWithCarry (~~~a) b c)
  | .orr => logicalResult (a ||| b) sc
  | .mov => logicalResult b sc
  | .bic => logicalResult (a &&& ~~~b) sc
  | .mvn => logicalResult (~~~b) sc

/-- The CPSR after the flag rule for `S = 1`, R182. -/
def flagsAfter (psr : Word) (r : AluResult) : Word :=
  withFlags psr (r.value.getLsbD 31) (decide (r.value = 0#32)) r.carry (r.overflow.getD (flagV psr))

/-- The predicate that `cond[3:1]` picks, R150. -/
def condBase (sel : BitVec 3) (n z c v : Bool) : Bool :=
  match sel.toNat with
  | 0 => z
  | 1 => c
  | 2 => n
  | 3 => v
  | 4 => c && !z
  | 5 => n == v
  | 6 => (n == v) && !z
  | _ => true

/-- `CondEval(cond)` over the four flags, R150. -/
def condEval (cond : Cond) (n z c v : Bool) : Bool :=
  let r := condBase (cond.extractLsb' 1 3) n z c v
  if cond.getLsbD 0 && cond != 15#4 then !r else r

/-- The condition of an instruction holds of a CPSR, R152. -/
def condPassed (cond : Cond) (psr : Word) : Bool := condEval cond (flagN psr) (flagZ psr) (flagC psr) (flagV psr)

/-- `if not CondEval(cond) then AdvancePC(); return Ok`, step 3 of R103. -/
def gated (cond : Cond) (s : State) (k : Out) : Out := if condPassed cond s.cpsr then k else advance s

end Sys2Proof.Machine
end

