-- ==== Sys2Proof/Machine/Operands.lean ====
section
/-! DEFINITION. The unit *Shifter* (R135 to R144), the second operand of data processing (R181), the addresses of the single-register
transfers (R100, R221, R261) and the byte mask of MSR (R357). -/

namespace Sys2Proof.Machine

/-- The five shift types, R135. -/
inductive ShiftType where
  | lsl | lsr | asr | ror | rrx
  deriving DecidableEq, Repr

/-- `LSL_C(v, n)` for `n >= 1`, R136. -/
def lslC (v : Word) (n : Nat) : Word × Bool :=
  if n ≤ 32 then (v <<< n, v.getLsbD (32 - n)) else (0#32, false)

/-- `LSR_C(v, n)` for `n >= 1`, R137. -/
def lsrC (v : Word) (n : Nat) : Word × Bool :=
  if n ≤ 32 then (v >>> n, v.getLsbD (n - 1)) else (0#32, false)

/-- `ASR_C(v, n)` for `n >= 1`, R138. -/
def asrC (v : Word) (n : Nat) : Word × Bool :=
  if n < 32 then (v.sshiftRight n, v.getLsbD (n - 1)) else (if v.getLsbD 31 then 0xFFFFFFFF#32 else 0#32, v.getLsbD 31)

/-- `ROR_C(v, n)` for `n >= 1`, R139. -/
def rorC (v : Word) (n : Nat) : Word × Bool :=
  let r := (v >>> (n % 32)) ||| (v <<< (32 - n % 32))
  (r, r.getLsbD 31)

/-- `RRX_C(v, carry_in)`, R140. -/
def rrxC (v : Word) (cin : Bool) : Word × Bool := (BitVec.ofBool cin ++ v.extractLsb' 1 31, v.getLsbD 0)

/-- `Shift_C(v, type, n, carry_in)`, R141. -/
def shiftC (v : Word) (t : ShiftType) (n : Nat) (cin : Bool) : Word × Bool :=
  match t with
  | .rrx => rrxC v cin
  | .lsl => if n = 0 then (v, cin) else lslC v n
  | .lsr => if n = 0 then (v, cin) else lsrC v n
  | .asr => if n = 0 then (v, cin) else asrC v n
  | .ror => if n = 0 then (v, cin) else rorC v n

/-- `DecodeImmShift(type2, imm5)`, R143. -/
def decodeImmShift (ty : BitVec 2) (imm5 : BitVec 5) : ShiftType × Nat :=
  match ty.toNat with
  | 0 => (.lsl, imm5.toNat)
  | 1 => (.lsr, if imm5 = 0#5 then 32 else imm5.toNat)
  | 2 => (.asr, if imm5 = 0#5 then 32 else imm5.toNat)
  | _ => if imm5 = 0#5 then (.rrx, 1) else (.ror, imm5.toNat)

/-- `ExpandImm_C(imm12, carry_in)`, R144. -/
def expandImmC (imm12 : BitVec 12) (cin : Bool) : Word × Bool :=
  shiftC ((imm12.extractLsb' 0 8).setWidth 32) .ror (2 * (imm12.extractLsb' 8 4).toNat) cin

/-- A register shifted by an immediate amount, with the shifter's carry-out (R142, R181). -/
def shiftedRegister (s : State) (imm5 : BitVec 5) (ty : BitVec 2) (rm : RegIdx) : Word × Bool :=
  shiftC (s.x rm) (decodeImmShift ty imm5).1 (decodeImmShift ty imm5).2 (flagC s.cpsr)

/-- The second operand of format DPI, R181. -/
def immediateOperand (s : State) (imm12 : BitVec 12) : Word × Bool := expandImmC imm12 (flagC s.cpsr)

/-- The index flag of the addressing-mode descriptor, R100: the offset address is the address of the access. -/
def indexes : Indexing → Bool
  | .offset => true
  | .preIndexed => true
  | .postIndexed => false

/-- The write-back flag of the addressing-mode descriptor, R100. -/
def writesBack : Indexing → Bool
  | .offset => false
  | .preIndexed => true
  | .postIndexed => true

/-- `offset_addr = add ? base+offset : base-offset`, step 4 of R221. -/
def offsetAddress (u : Bool) (base off : Word) : Word := if u then base + off else base - off

/-- `address = index ? offset_addr : base`, step 4 of R221. -/
def transferAddress (idx : Indexing) (u : Bool) (base off : Word) : Word :=
  if indexes idx then offsetAddress u base off else base

/-- The base of a literal form: `align(x[15], 4)`, R222, R262, R324. -/
def literalBase (s : State) : Word := align4 (s.x 15#4)

/-- `ByteMask(mask)`, R357. -/
def byteMask (mask : BitVec 4) : Word :=
  let byteOf (b : Bool) : BitVec 8 := if b then 0xFF#8 else 0#8
  byteOf (mask.getLsbD 3) ++ byteOf (mask.getLsbD 2) ++ byteOf (mask.getLsbD 1) ++ byteOf (mask.getLsbD 0)

end Sys2Proof.Machine
end

