-- ==== Sys2Proof/Machine/BlockTransfer.lean ====
section
/-! DEFINITION. The block transfers and the refused branches, 44_block_transfer_branch.md. -/

namespace Sys2Proof.Machine

/-- The length of a list in bytes, as a word. -/
def blockLengthWord (regList : BitVec 16) : Word := BitVec.ofNat 32 (blockLength regList)

/-- The state with the `Range` events of a block transfer (R70), which come before the first word (R295). -/
def State.emitRange (s : State) (start : Word) (regList : BitVec 16) : State :=
  s.emitAll (rangeEvents s.ttblMinPageSize start (blockLength regList))

/-- STM after its refusals and its condition, R291, R294, R297. -/
def storeMultiple (p u w : Bool) (rn : RegIdx) (regList : BitVec 16) (s : State) : Out :=
  let base := s.x rn
  let len := blockLengthWord regList
  let start := blockStart p u base len
  ((storeRegisters s.mode (listedRegisters regList) start (s.emitRange start regList)).andThen fun addr s1 =>
      storePc regList addr s1).orFault fun _ s2 =>
    advance (s2.writeBack w rn (blockWriteBack u base len))

/-- LDM after its refusals and its condition, R291, R296: with bit 15 listed the last word goes to the PC. -/
def loadMultiple (p u w : Bool) (rn : RegIdx) (regList : BitVec 16) (s : State) : Out :=
  let base := s.x rn
  let len := blockLengthWord regList
  let start := blockStart p u base len
  (loadRegisters s.mode (listedRegisters regList) start (s.emitRange start regList)).orFault fun addr s1 =>
    if inList regList 15#4 then
      (memRead s1 addr .word false).orFault fun newpc s2 => branchTo (s2.writeBack w rn (blockWriteBack u base len)) newpc
    else advance (s1.writeBack w rn (blockWriteBack u base len))

/-- The refusals of STM, R291, R293. -/
def stmRefusals (rn : RegIdx) (regList : BitVec 16) : List (Bool × Reason) :=
  [(rn == 15#4, .registers), (regList == 0#16, .registers)]

/-- The refusals of LDM, R291, R293. -/
def ldmRefusals (w : Bool) (rn : RegIdx) (regList : BitVec 16) : List (Bool × Reason) :=
  [(rn == 15#4, .registers), (regList == 0#16, .registers), (w && inList regList rn, .registers)]

/-- STM in one addressing mode, R291. -/
def stm (p u : Bool) (cond : Cond) (w : Bool) (rn : RegIdx) (regList : BitVec 16) (s : State) : Out :=
  refusing s (stmRefusals rn regList) (gated cond s (storeMultiple p u w rn regList s))

/-- LDM in one addressing mode, R291. -/
def ldm (p u : Bool) (cond : Cond) (w : Bool) (rn : RegIdx) (regList : BitVec 16) (s : State) : Out :=
  refusing s (ldmRefusals w rn regList) (gated cond s (loadMultiple p u w rn regList s))

/-- STMDA, R298. -/
def execStmda (cond : Cond) (w : Bool) (rn : RegIdx) (regList : BitVec 16) (s : State) : Out := stm false false cond w rn regList s

/-- STMIA, R299. -/
def execStmia (cond : Cond) (w : Bool) (rn : RegIdx) (regList : BitVec 16) (s : State) : Out := stm false true cond w rn regList s

/-- STMDB, R300. -/
def execStmdb (cond : Cond) (w : Bool) (rn : RegIdx) (regList : BitVec 16) (s : State) : Out := stm true false cond w rn regList s

/-- STMIB, R301. -/
def execStmib (cond : Cond) (w : Bool) (rn : RegIdx) (regList : BitVec 16) (s : State) : Out := stm true true cond w rn regList s

/-- LDMDA, R302. -/
def execLdmda (cond : Cond) (w : Bool) (rn : RegIdx) (regList : BitVec 16) (s : State) : Out := ldm false false cond w rn regList s

/-- LDMIA, R303. -/
def execLdmia (cond : Cond) (w : Bool) (rn : RegIdx) (regList : BitVec 16) (s : State) : Out := ldm false true cond w rn regList s

/-- LDMDB, R304. -/
def execLdmdb (cond : Cond) (w : Bool) (rn : RegIdx) (regList : BitVec 16) (s : State) : Out := ldm true false cond w rn regList s

/-- LDMIB, R305. -/
def execLdmib (cond : Cond) (w : Bool) (rn : RegIdx) (regList : BitVec 16) (s : State) : Out := ldm true true cond w rn regList s

/-- A native block transfer with `S = 1`: refused whatever the condition, R306. -/
def execBlockNativeS (_cond : Cond) (_p _u _w _l : Bool) (_rn : RegIdx) (_regList : BitVec 16) (s : State) : Out := refuse s .nativeS

/-- B: refused whatever the condition, R307. -/
def execB (_cond : Cond) (_imm24 : BitVec 24) (s : State) : Out := refuse s .branch

/-- BL: refused whatever the condition, R308. -/
def execBl (_cond : Cond) (_imm24 : BitVec 24) (s : State) : Out := refuse s .branch

end Sys2Proof.Machine
end

