-- ==== Sys2Proof/Machine/Coprocessor.lean ====
section
/-! DEFINITION. The coprocessor instructions, 45_coprocessor_svc.md. -/

namespace Sys2Proof.Machine

/-- The coprocessor 10 and 11 space: refused whatever the condition, R321. -/
def execVfpSpace (_cond : Cond) (_op : BitVec 2) (_mid : BitVec 12) (_odd : Bool) (_low : BitVec 8) (s : State) : Out := refuse s .vfpSimd

/-- The object of a coprocessor when it has the hooks an instruction needs; none is UndefInjected (R322, R424). -/
def State.copWith (s : State) (n : BitVec 4) (needs : Hooks → Bool) : Option CopObject :=
  match s.cop n with
  | some o => if needs o.hooks then some o else none
  | none => none

/-- `uopt`, R323: the unindexed form. -/
def unindexed (p w : Bool) : Bool := !p && !w

/-- The hooks LDC needs, R323. -/
def ldcHooks (h : Hooks) : Bool := h.ldcstcAccept && h.ldcstcDone && h.ldcstcWrite

/-- The hooks STC needs, R323. -/
def stcHooks (h : Hooks) : Bool := h.ldcstcAccept && h.ldcstcDone && h.ldcstcRead

/-- The end of an LDC or STC: write-back after the last word (R323), GuestFault (R324), or the transfer never ends (U14; log 9). -/
def LoopResult.finish (r : LoopResult) (k : State → Out) : Out :=
  match r with
  | .finished s => k s
  | .faulted code s => guestFault s code
  | .endless => .fault .endlessTransfer

/-- The address of the first word of an LDC or STC, R323. -/
def transferStart (p u : Bool) (base : Word) (imm8 : BitVec 8) : Word :=
  if p then offsetAddress u base (imm8.setWidth 32 <<< 2) else base

/-- LDC after its refusals, R323: lookup, `ldcstc_accept`, the loop, the write-back. -/
def ldcSteps (p u w : Bool) (base : Word) (rn n : BitVec 4) (t : TransferArgs) (s : State) : Out :=
  match s.copWith n ldcHooks with
  | none => injectUndef s
  | some o =>
    if (hookAccept s n t).1 then
      (ldcLoop n t (loopBound o.unit) 0 (transferStart p u base t.imm8) (hookAccept s n t).2).finish fun s' =>
        advance (s'.writeBack w rn (offsetAddress u base (t.imm8.setWidth 32 <<< 2)))
    else injectUndef (hookAccept s n t).2

/-- STC after its refusals, R323. -/
def stcSteps (p u w : Bool) (base : Word) (rn n : BitVec 4) (t : TransferArgs) (s : State) : Out :=
  match s.copWith n stcHooks with
  | none => injectUndef s
  | some o =>
    if (hookAccept s n t).1 then
      (stcLoop n t (loopBound o.unit) 0 (transferStart p u base t.imm8) (hookAccept s n t).2).finish fun s' =>
        advance (s'.writeBack w rn (offsetAddress u base (t.imm8.setWidth 32 <<< 2)))
    else injectUndef (hookAccept s n t).2

/-- STC, R325: `Rn = 15` is refused (R324). -/
def execStc (cond : Cond) (p u d w : Bool) (rn crd coproc : BitVec 4) (imm8 : BitVec 8) (s : State) : Out :=
  refusing s [(rn == 15#4, .registers)]
    (gated cond s (stcSteps p u w (s.x rn) rn coproc ⟨d, crd, unindexed p w, imm8⟩ s))

/-- LDC (immediate), R326. With `Rn = 15` the word is the literal row. -/
def execLdcImmediate (cond : Cond) (p u d w : Bool) (rn crd coproc : BitVec 4) (imm8 : BitVec 8) (s : State) : Out :=
  gated cond s (ldcSteps p u w (s.x rn) rn coproc ⟨d, crd, unindexed p w, imm8⟩ s)

/-- LDC (literal), R326, R324: write-back is refused. -/
def execLdcLiteral (cond : Cond) (p u d w : Bool) (crd coproc : BitVec 4) (imm8 : BitVec 8) (s : State) : Out :=
  refusing s [(w, .registers)]
    (gated cond s (ldcSteps p u false (literalBase s) 15#4 coproc ⟨d, crd, unindexed p w, imm8⟩ s))

/-- MCRR, R327. -/
def execMcrr (cond : Cond) (rt2 rt coproc opc1 crm : BitVec 4) (s : State) : Out :=
  refusing s [(rt == 15#4, .registers), (rt2 == 15#4, .registers)]
    (gated cond s
      (match s.copWith coproc Hooks.write2 with
      | none => injectUndef s
      | some _ =>
        let r := hookWrite2 s coproc opc1 crm (s.x rt) (s.x rt2)
        if r.1 then advance r.2 else injectUndef r.2))

/-- MRRC, R328. -/
def execMrrc (cond : Cond) (rt2 rt coproc opc1 crm : BitVec 4) (s : State) : Out :=
  refusing s [(rt == 15#4, .registers), (rt2 == 15#4, .registers), (rt == rt2, .registers)]
    (gated cond s
      (match s.copWith coproc Hooks.read2 with
      | none => injectUndef s
      | some _ =>
        let r := hookRead2 s coproc opc1 crm
        match r.1 with
        | some v => advance ((r.2.setX rt v.1).setX rt2 v.2)
        | none => injectUndef r.2))

/-- The cell `1100 000x`: refused whatever the condition, R333. -/
def execCpSpace1100000x (_cond : Cond) (_l : Bool) (_rn _crd _coproc : BitVec 4) (_imm8 : BitVec 8) (s : State) : Out :=
  refuse s .coprocessorCell

/-- MCR, R329. -/
def execMcr (cond : Cond) (opc1 : BitVec 3) (crn rt coproc : BitVec 4) (opc2 : BitVec 3) (crm : BitVec 4) (s : State) : Out :=
  refusing s [(rt == 15#4, .registers)]
    (gated cond s
      (match s.copWith coproc Hooks.write with
      | none => injectUndef s
      | some _ =>
        let r := hookWrite s coproc opc1 opc2 crn crm (s.x rt)
        if r.1 then advance r.2 else injectUndef r.2))

/-- The destination of MRC, R330: the four flags when `Rt = 15`, else the register. -/
def State.setMrcTarget (s : State) (rt : RegIdx) (v : Word) : State :=
  if rt = 15#4 then { s with cpsr := withFlags s.cpsr (flagN v) (flagZ v) (flagC v) (flagV v) } else s.setX rt v

/-- MRC, R330. -/
def execMrc (cond : Cond) (opc1 : BitVec 3) (crn rt coproc : BitVec 4) (opc2 : BitVec 3) (crm : BitVec 4) (s : State) : Out :=
  gated cond s
    (match s.copWith coproc Hooks.read with
    | none => injectUndef s
    | some _ =>
      let r := hookRead s coproc opc1 opc2 crn crm
      match r.1 with
      | some v => advance (r.2.setMrcTarget rt v)
      | none => injectUndef r.2)

/-- CDP, R331. -/
def execCdp (cond : Cond) (opc1 crn crd coproc : BitVec 4) (opc2 : BitVec 3) (crm : BitVec 4) (s : State) : Out :=
  gated cond s
    (match s.copWith coproc Hooks.dataProcess with
    | none => injectUndef s
    | some _ =>
      let r := hookDataProcess s coproc opc1 opc2 crd crn crm
      if r.1 then advance r.2 else injectUndef r.2)

end Sys2Proof.Machine
end

