-- ==== Sys2Proof/Machine/DataProcessing.lean ====
section
/-! DEFINITION. The data-processing instructions and MOVW, 41_data_processing.md. -/

namespace Sys2Proof.Machine

/-- The common pattern of the twelve operations, R183: `operand` is `(op2, sc)`, R181. `Rn` of MOV and MVN is not read by the ALU. -/
def dataProcessing (op : AluOp) (cond : Cond) (sf : Bool) (rn rd : RegIdx) (operand : Word × Bool) (s : State) : Out :=
  refusing s [(rd == 15#4, .registers)]
    (gated cond s
      (let r := alu op (s.x rn) operand.1 (flagC s.cpsr) operand.2
       let s' := s.setX rd r.value
       advance (if sf then { s' with cpsr := flagsAfter s.cpsr r } else s')))

/-- AND (immediate), R184. -/
def execAndImmediate (cond : Cond) (sf : Bool) (rn rd : RegIdx) (imm12 : BitVec 12) (s : State) : Out :=
  dataProcessing .and cond sf rn rd (immediateOperand s imm12) s

/-- AND (register), R184. -/
def execAndRegister (cond : Cond) (sf : Bool) (rn rd : RegIdx) (imm5 : BitVec 5) (ty : BitVec 2) (rm : RegIdx) (s : State) : Out :=
  dataProcessing .and cond sf rn rd (shiftedRegister s imm5 ty rm) s

/-- EOR (immediate), R185. -/
def execEorImmediate (cond : Cond) (sf : Bool) (rn rd : RegIdx) (imm12 : BitVec 12) (s : State) : Out :=
  dataProcessing .eor cond sf rn rd (immediateOperand s imm12) s

/-- EOR (register), R185. -/
def execEorRegister (cond : Cond) (sf : Bool) (rn rd : RegIdx) (imm5 : BitVec 5) (ty : BitVec 2) (rm : RegIdx) (s : State) : Out :=
  dataProcessing .eor cond sf rn rd (shiftedRegister s imm5 ty rm) s

/-- SUB (immediate), R186. -/
def execSubImmediate (cond : Cond) (sf : Bool) (rn rd : RegIdx) (imm12 : BitVec 12) (s : State) : Out :=
  dataProcessing .sub cond sf rn rd (immediateOperand s imm12) s

/-- SUB (register), R186. -/
def execSubRegister (cond : Cond) (sf : Bool) (rn rd : RegIdx) (imm5 : BitVec 5) (ty : BitVec 2) (rm : RegIdx) (s : State) : Out :=
  dataProcessing .sub cond sf rn rd (shiftedRegister s imm5 ty rm) s

/-- RSB (immediate), R187. -/
def execRsbImmediate (cond : Cond) (sf : Bool) (rn rd : RegIdx) (imm12 : BitVec 12) (s : State) : Out :=
  dataProcessing .rsb cond sf rn rd (immediateOperand s imm12) s

/-- RSB (register), R187. -/
def execRsbRegister (cond : Cond) (sf : Bool) (rn rd : RegIdx) (imm5 : BitVec 5) (ty : BitVec 2) (rm : RegIdx) (s : State) : Out :=
  dataProcessing .rsb cond sf rn rd (shiftedRegister s imm5 ty rm) s

/-- ADD (immediate), R188. -/
def execAddImmediate (cond : Cond) (sf : Bool) (rn rd : RegIdx) (imm12 : BitVec 12) (s : State) : Out :=
  dataProcessing .add cond sf rn rd (immediateOperand s imm12) s

/-- ADD (register), R188. -/
def execAddRegister (cond : Cond) (sf : Bool) (rn rd : RegIdx) (imm5 : BitVec 5) (ty : BitVec 2) (rm : RegIdx) (s : State) : Out :=
  dataProcessing .add cond sf rn rd (shiftedRegister s imm5 ty rm) s

/-- ADC (immediate), R189. -/
def execAdcImmediate (cond : Cond) (sf : Bool) (rn rd : RegIdx) (imm12 : BitVec 12) (s : State) : Out :=
  dataProcessing .adc cond sf rn rd (immediateOperand s imm12) s

/-- ADC (register), R189. -/
def execAdcRegister (cond : Cond) (sf : Bool) (rn rd : RegIdx) (imm5 : BitVec 5) (ty : BitVec 2) (rm : RegIdx) (s : State) : Out :=
  dataProcessing .adc cond sf rn rd (shiftedRegister s imm5 ty rm) s

/-- SBC (immediate), R190. -/
def execSbcImmediate (cond : Cond) (sf : Bool) (rn rd : RegIdx) (imm12 : BitVec 12) (s : State) : Out :=
  dataProcessing .sbc cond sf rn rd (immediateOperand s imm12) s

/-- SBC (register), R190. -/
def execSbcRegister (cond : Cond) (sf : Bool) (rn rd : RegIdx) (imm5 : BitVec 5) (ty : BitVec 2) (rm : RegIdx) (s : State) : Out :=
  dataProcessing .sbc cond sf rn rd (shiftedRegister s imm5 ty rm) s

/-- RSC (immediate), R191. -/
def execRscImmediate (cond : Cond) (sf : Bool) (rn rd : RegIdx) (imm12 : BitVec 12) (s : State) : Out :=
  dataProcessing .rsc cond sf rn rd (immediateOperand s imm12) s

/-- RSC (register), R191. -/
def execRscRegister (cond : Cond) (sf : Bool) (rn rd : RegIdx) (imm5 : BitVec 5) (ty : BitVec 2) (rm : RegIdx) (s : State) : Out :=
  dataProcessing .rsc cond sf rn rd (shiftedRegister s imm5 ty rm) s

/-- ORR (immediate), R192. -/
def execOrrImmediate (cond : Cond) (sf : Bool) (rn rd : RegIdx) (imm12 : BitVec 12) (s : State) : Out :=
  dataProcessing .orr cond sf rn rd (immediateOperand s imm12) s

/-- ORR (register), R192. -/
def execOrrRegister (cond : Cond) (sf : Bool) (rn rd : RegIdx) (imm5 : BitVec 5) (ty : BitVec 2) (rm : RegIdx) (s : State) : Out :=
  dataProcessing .orr cond sf rn rd (shiftedRegister s imm5 ty rm) s

/-- MOV (immediate), R193. -/
def execMovImmediate (cond : Cond) (sf : Bool) (rn rd : RegIdx) (imm12 : BitVec 12) (s : State) : Out :=
  dataProcessing .mov cond sf rn rd (immediateOperand s imm12) s

/-- MOV (register), R193. -/
def execMovRegister (cond : Cond) (sf : Bool) (rn rd : RegIdx) (imm5 : BitVec 5) (ty : BitVec 2) (rm : RegIdx) (s : State) : Out :=
  dataProcessing .mov cond sf rn rd (shiftedRegister s imm5 ty rm) s

/-- BIC (immediate), R194. -/
def execBicImmediate (cond : Cond) (sf : Bool) (rn rd : RegIdx) (imm12 : BitVec 12) (s : State) : Out :=
  dataProcessing .bic cond sf rn rd (immediateOperand s imm12) s

/-- BIC (register), R194. -/
def execBicRegister (cond : Cond) (sf : Bool) (rn rd : RegIdx) (imm5 : BitVec 5) (ty : BitVec 2) (rm : RegIdx) (s : State) : Out :=
  dataProcessing .bic cond sf rn rd (shiftedRegister s imm5 ty rm) s

/-- MVN (immediate), R195. -/
def execMvnImmediate (cond : Cond) (sf : Bool) (rn rd : RegIdx) (imm12 : BitVec 12) (s : State) : Out :=
  dataProcessing .mvn cond sf rn rd (immediateOperand s imm12) s

/-- MVN (register), R195. -/
def execMvnRegister (cond : Cond) (sf : Bool) (rn rd : RegIdx) (imm5 : BitVec 5) (ty : BitVec 2) (rm : RegIdx) (s : State) : Out :=
  dataProcessing .mvn cond sf rn rd (shiftedRegister s imm5 ty rm) s

/-- MOVW, R196. -/
def execMovw (cond : Cond) (rd : RegIdx) (imm16 : BitVec 16) (s : State) : Out :=
  refusing s [(rd == 15#4, .registers)] (gated cond s (advance (s.setX rd (imm16.setWidth 32))))

end Sys2Proof.Machine
end

