-- ==== Sys2Proof/Machine/Transfer.lean ====
section
/-! DEFINITION. The single-register transfers once over: the eight steps of R221 and R261 for every width, with the refusals of R223 and R263. -/

namespace Sys2Proof.Machine

/-- What a load moves and how it fills the register, R68. -/
inductive LoadKind where
  /-- LDR, LDRT. -/
  | word
  /-- LDRB, LDRBT: zero-extended. -/
  | ubyte
  /-- LDRH, LDRHT: zero-extended. -/
  | uhalf
  /-- LDRSB, LDRSBT: sign-extended from bit 7. -/
  | sbyte
  /-- LDRSH, LDRSHT: sign-extended from bit 15. -/
  | shalf
  deriving DecidableEq, Repr

/-- The size of the port call of a load, R68. -/
def loadSize : LoadKind → Size
  | .word => .word
  | .ubyte => .byte
  | .uhalf => .half
  | .sbyte => .byte
  | .shalf => .half

/-- The register value of a load, from the port's value, R68. -/
def extendLoad : LoadKind → Word → Word
  | .word, v => v
  | .ubyte, v => zext8 v
  | .uhalf, v => zext16 v
  | .sbyte, v => sext8 v
  | .shalf, v => sext16 v

/-- The refusals of a load or store with a base register, rows 1, 3 and 4 of R223, rows 1 to 3 of R263. -/
def baseRefusals (idx : Indexing) (rn rt : RegIdx) : List (Bool × Reason) :=
  [(rt == 15#4, .registers), (writesBack idx && rn == 15#4, .registers), (writesBack idx && rn == rt, .registers)]

/-- The refusals of a literal form, `Rt = 15` and write-back (R223, R263). -/
def literalRefusals (idx : Indexing) (rt : RegIdx) : List (Bool × Reason) :=
  [(rt == 15#4, .registers), (writesBack idx, .registers)]

/-- The refusals of a T variant, R223, R263. -/
def unprivilegedRefusals (rn rt : RegIdx) : List (Bool × Reason) :=
  [(rt == 15#4, .registers), (rn == 15#4, .registers), (rn == rt, .registers)]

/-- The refusal of a register form, `Rm = 15` (R223, R263). -/
def registerFormRefusal (rm : RegIdx) : List (Bool × Reason) := [(rm == 15#4, .registers)]

/-- Steps 3 to 8 of a load (R221, R261): the port call, the register, the write-back, the PC. -/
def loadSteps (k : LoadKind) (user : Bool) (cond : Cond) (wback : Bool) (address wbValue : Word) (rn rt : RegIdx) (s : State) : Out :=
  gated cond s
    ((memRead s address (loadSize k) user).orFault fun v s' =>
      advance ((s'.setX rt (extendLoad k v)).writeBack wback rn wbValue))

/-- Steps 3 to 8 of a store (R221, R261). -/
def storeSteps (size : Size) (user : Bool) (cond : Cond) (wback : Bool) (address wbValue : Word) (rn rt : RegIdx) (s : State) : Out :=
  gated cond s
    ((memWrite s address size (s.x rt) user).orFault fun _ s' => advance (s'.writeBack wback rn wbValue))

/-- A load with a base register (R221, R261). -/
def loadFrom (k : LoadKind) (cond : Cond) (idx : Indexing) (u : Bool) (rn rt : RegIdx) (off : Word) (s : State) : Out :=
  loadSteps k false cond (writesBack idx) (transferAddress idx u (s.x rn) off) (offsetAddress u (s.x rn) off) rn rt s

/-- A load relative to the PC (R222, R262); the refusals leave only the offset mode. -/
def loadLiteral (k : LoadKind) (cond : Cond) (idx : Indexing) (u : Bool) (rt : RegIdx) (off : Word) (s : State) : Out :=
  refusing s (literalRefusals idx rt)
    (loadSteps k false cond false (transferAddress idx u (literalBase s) off) 0#32 15#4 rt s)

/-- A load of a T variant: user privilege, at the base, then write-back (R230 to R233, R268 to R271). -/
def loadUnprivileged (k : LoadKind) (cond : Cond) (u : Bool) (rn rt : RegIdx) (off : Word) (s : State) : Out :=
  loadSteps k true cond true (s.x rn) (offsetAddress u (s.x rn) off) rn rt s

/-- A store with a base register (R221, R261). -/
def storeTo (size : Size) (cond : Cond) (idx : Indexing) (u : Bool) (rn rt : RegIdx) (off : Word) (s : State) : Out :=
  storeSteps size false cond (writesBack idx) (transferAddress idx u (s.x rn) off) (offsetAddress u (s.x rn) off) rn rt s

/-- A store of a T variant (R230, R268, R270). -/
def storeUnprivileged (size : Size) (cond : Cond) (u : Bool) (rn rt : RegIdx) (off : Word) (s : State) : Out :=
  storeSteps size true cond true (s.x rn) (offsetAddress u (s.x rn) off) rn rt s

/-- The immediate form of a load with a base register. -/
def loadImmediate (k : LoadKind) (cond : Cond) (idx : Indexing) (u : Bool) (rn rt : RegIdx) (off : Word) (s : State) : Out :=
  refusing s (baseRefusals idx rn rt) (loadFrom k cond idx u rn rt off s)

/-- The register form of a load with a base register. -/
def loadRegister (k : LoadKind) (cond : Cond) (idx : Indexing) (u : Bool) (rn rt rm : RegIdx) (off : Word) (s : State) : Out :=
  refusing s (baseRefusals idx rn rt ++ registerFormRefusal rm) (loadFrom k cond idx u rn rt off s)

/-- The immediate form of a store with a base register. -/
def storeImmediate (size : Size) (cond : Cond) (idx : Indexing) (u : Bool) (rn rt : RegIdx) (off : Word) (s : State) : Out :=
  refusing s (baseRefusals idx rn rt) (storeTo size cond idx u rn rt off s)

/-- The register form of a store with a base register. -/
def storeRegister (size : Size) (cond : Cond) (idx : Indexing) (u : Bool) (rn rt rm : RegIdx) (off : Word) (s : State) : Out :=
  refusing s (baseRefusals idx rn rt ++ registerFormRefusal rm) (storeTo size cond idx u rn rt off s)

/-- The immediate form of a T load. -/
def loadTImmediate (k : LoadKind) (cond : Cond) (u : Bool) (rn rt : RegIdx) (off : Word) (s : State) : Out :=
  refusing s (unprivilegedRefusals rn rt) (loadUnprivileged k cond u rn rt off s)

/-- The register form of a T load. -/
def loadTRegister (k : LoadKind) (cond : Cond) (u : Bool) (rn rt rm : RegIdx) (off : Word) (s : State) : Out :=
  refusing s (unprivilegedRefusals rn rt ++ registerFormRefusal rm) (loadUnprivileged k cond u rn rt off s)

/-- The immediate form of a T store. -/
def storeTImmediate (size : Size) (cond : Cond) (u : Bool) (rn rt : RegIdx) (off : Word) (s : State) : Out :=
  refusing s (unprivilegedRefusals rn rt) (storeUnprivileged size cond u rn rt off s)

/-- The register form of a T store. -/
def storeTRegister (size : Size) (cond : Cond) (u : Bool) (rn rt rm : RegIdx) (off : Word) (s : State) : Out :=
  refusing s (unprivilegedRefusals rn rt ++ registerFormRefusal rm) (storeUnprivileged size cond u rn rt off s)

/-- The refusals of a doubleword form, rows 2, 3, 4, 5 and 7 of R223. -/
def doubleRefusals (idx : Indexing) (rn rt : RegIdx) : List (Bool × Reason) :=
  [(rt.getLsbD 0, .registers), (rt == 14#4, .registers), (writesBack idx && rn == 15#4, .registers),
    (writesBack idx && rn == rt, .registers), (writesBack idx && rn == rt + 1#4, .registers)]

/-- Steps 3 to 8 of LDRD, R226: both reads come before either register is written. -/
def loadDoubleSteps (cond : Cond) (wback : Bool) (address wbValue : Word) (rn rt : RegIdx) (s : State) : Out :=
  gated cond s
    (((memRead s address .word false).andThen fun lo s1 =>
        (memRead s1 (address + 4#32) .word false).andThen fun hi s2 => .ok (lo, hi) s2).orFault fun v s' =>
      advance (((s'.setX rt v.1).setX (rt + 1#4) v.2).writeBack wback rn wbValue))

/-- Steps 3 to 8 of STRD, R227: the word at `address` first. -/
def storeDoubleSteps (cond : Cond) (wback : Bool) (address wbValue : Word) (rn rt : RegIdx) (s : State) : Out :=
  gated cond s
    (((memWrite s address .word (s.x rt) false).andThen fun _ s1 =>
        memWrite s1 (address + 4#32) .word (s1.x (rt + 1#4)) false).orFault fun _ s' =>
      advance (s'.writeBack wback rn wbValue))

/-- LDRD with a base register. -/
def loadDouble (cond : Cond) (idx : Indexing) (u : Bool) (rn rt : RegIdx) (off : Word) (s : State) : Out :=
  loadDoubleSteps cond (writesBack idx) (transferAddress idx u (s.x rn) off) (offsetAddress u (s.x rn) off) rn rt s

/-- STRD with a base register. -/
def storeDouble (cond : Cond) (idx : Indexing) (u : Bool) (rn rt : RegIdx) (off : Word) (s : State) : Out :=
  storeDoubleSteps cond (writesBack idx) (transferAddress idx u (s.x rn) off) (offsetAddress u (s.x rn) off) rn rt s

end Sys2Proof.Machine
end

