-- ==== Sys2Proof/Machine/ExtraLoadStore.lean ====
section
/-! DEFINITION. The extra loads and stores: halfword, signed, doubleword and their unprivileged variants, 42_extra_load_store_sync.md. -/

namespace Sys2Proof.Machine

/-- STRH (immediate), R224. -/
def execStrhImmediate (cond : Cond) (idx : Indexing) (u : Bool) (rn rt : RegIdx) (imm8 : BitVec 8) (s : State) : Out :=
  storeImmediate .half cond idx u rn rt (imm8.setWidth 32) s

/-- STRH (register), R224. -/
def execStrhRegister (cond : Cond) (idx : Indexing) (u : Bool) (rn rt rm : RegIdx) (s : State) : Out :=
  storeRegister .half cond idx u rn rt rm (s.x rm) s

/-- LDRH (immediate), R225. -/
def execLdrhImmediate (cond : Cond) (idx : Indexing) (u : Bool) (rn rt : RegIdx) (imm8 : BitVec 8) (s : State) : Out :=
  loadImmediate .uhalf cond idx u rn rt (imm8.setWidth 32) s

/-- LDRH (literal), R225, R222. -/
def execLdrhLiteral (cond : Cond) (idx : Indexing) (u : Bool) (rt : RegIdx) (imm8 : BitVec 8) (s : State) : Out :=
  loadLiteral .uhalf cond idx u rt (imm8.setWidth 32) s

/-- LDRH (register), R225. -/
def execLdrhRegister (cond : Cond) (idx : Indexing) (u : Bool) (rn rt rm : RegIdx) (s : State) : Out :=
  loadRegister .uhalf cond idx u rn rt rm (s.x rm) s

/-- LDRD (immediate), R226. -/
def execLdrdImmediate (cond : Cond) (idx : Indexing) (u : Bool) (rn rt : RegIdx) (imm8 : BitVec 8) (s : State) : Out :=
  refusing s (doubleRefusals idx rn rt) (loadDouble cond idx u rn rt (imm8.setWidth 32) s)

/-- LDRD (literal), R226, R222: rows 2, 7 and 10 of R223. -/
def execLdrdLiteral (cond : Cond) (idx : Indexing) (u : Bool) (rt : RegIdx) (imm8 : BitVec 8) (s : State) : Out :=
  refusing s [(rt.getLsbD 0, .registers), (rt == 14#4, .registers), (writesBack idx, .registers)]
    (loadDoubleSteps cond false (transferAddress idx u (literalBase s) (imm8.setWidth 32)) 0#32 15#4 rt s)

/-- LDRD (register), R226: rows 8 and 9 of R223 besides. -/
def execLdrdRegister (cond : Cond) (idx : Indexing) (u : Bool) (rn rt rm : RegIdx) (s : State) : Out :=
  refusing s (doubleRefusals idx rn rt ++ [(rm == 15#4, .registers), (rm == rt, .registers), (rm == rt + 1#4, .registers)])
    (loadDouble cond idx u rn rt (s.x rm) s)

/-- STRD (immediate), R227. -/
def execStrdImmediate (cond : Cond) (idx : Indexing) (u : Bool) (rn rt : RegIdx) (imm8 : BitVec 8) (s : State) : Out :=
  refusing s (doubleRefusals idx rn rt) (storeDouble cond idx u rn rt (imm8.setWidth 32) s)

/-- STRD (register), R227. -/
def execStrdRegister (cond : Cond) (idx : Indexing) (u : Bool) (rn rt rm : RegIdx) (s : State) : Out :=
  refusing s (doubleRefusals idx rn rt ++ registerFormRefusal rm) (storeDouble cond idx u rn rt (s.x rm) s)

/-- LDRSB (immediate), R228. -/
def execLdrsbImmediate (cond : Cond) (idx : Indexing) (u : Bool) (rn rt : RegIdx) (imm8 : BitVec 8) (s : State) : Out :=
  loadImmediate .sbyte cond idx u rn rt (imm8.setWidth 32) s

/-- LDRSB (literal), R228, R222. -/
def execLdrsbLiteral (cond : Cond) (idx : Indexing) (u : Bool) (rt : RegIdx) (imm8 : BitVec 8) (s : State) : Out :=
  loadLiteral .sbyte cond idx u rt (imm8.setWidth 32) s

/-- LDRSB (register), R228. -/
def execLdrsbRegister (cond : Cond) (idx : Indexing) (u : Bool) (rn rt rm : RegIdx) (s : State) : Out :=
  loadRegister .sbyte cond idx u rn rt rm (s.x rm) s

/-- LDRSH (immediate), R229. -/
def execLdrshImmediate (cond : Cond) (idx : Indexing) (u : Bool) (rn rt : RegIdx) (imm8 : BitVec 8) (s : State) : Out :=
  loadImmediate .shalf cond idx u rn rt (imm8.setWidth 32) s

/-- LDRSH (literal), R229, R222. -/
def execLdrshLiteral (cond : Cond) (idx : Indexing) (u : Bool) (rt : RegIdx) (imm8 : BitVec 8) (s : State) : Out :=
  loadLiteral .shalf cond idx u rt (imm8.setWidth 32) s

/-- LDRSH (register), R229. -/
def execLdrshRegister (cond : Cond) (idx : Indexing) (u : Bool) (rn rt rm : RegIdx) (s : State) : Out :=
  loadRegister .shalf cond idx u rn rt rm (s.x rm) s

/-- STRHT (immediate), R230. -/
def execStrhtImmediate (cond : Cond) (u : Bool) (rn rt : RegIdx) (imm8 : BitVec 8) (s : State) : Out :=
  storeTImmediate .half cond u rn rt (imm8.setWidth 32) s

/-- STRHT (register), R230. -/
def execStrhtRegister (cond : Cond) (u : Bool) (rn rt rm : RegIdx) (s : State) : Out :=
  storeTRegister .half cond u rn rt rm (s.x rm) s

/-- LDRHT (immediate), R231. -/
def execLdrhtImmediate (cond : Cond) (u : Bool) (rn rt : RegIdx) (imm8 : BitVec 8) (s : State) : Out :=
  loadTImmediate .uhalf cond u rn rt (imm8.setWidth 32) s

/-- LDRHT (register), R231. -/
def execLdrhtRegister (cond : Cond) (u : Bool) (rn rt rm : RegIdx) (s : State) : Out :=
  loadTRegister .uhalf cond u rn rt rm (s.x rm) s

/-- LDRSBT (immediate), R232. -/
def execLdrsbtImmediate (cond : Cond) (u : Bool) (rn rt : RegIdx) (imm8 : BitVec 8) (s : State) : Out :=
  loadTImmediate .sbyte cond u rn rt (imm8.setWidth 32) s

/-- LDRSBT (register), R232. -/
def execLdrsbtRegister (cond : Cond) (u : Bool) (rn rt rm : RegIdx) (s : State) : Out :=
  loadTRegister .sbyte cond u rn rt rm (s.x rm) s

/-- LDRSHT (immediate), R233. -/
def execLdrshtImmediate (cond : Cond) (u : Bool) (rn rt : RegIdx) (imm8 : BitVec 8) (s : State) : Out :=
  loadTImmediate .shalf cond u rn rt (imm8.setWidth 32) s

/-- LDRSHT (register), R233. -/
def execLdrshtRegister (cond : Cond) (u : Bool) (rn rt rm : RegIdx) (s : State) : Out :=
  loadTRegister .shalf cond u rn rt rm (s.x rm) s

/-- LDRD or STRD with `P = 0, W = 1`: refused whatever the condition, R223 row 6. -/
def execDoublewordP0W1 (_cond : Cond) (_store _u _imm : Bool) (_rn _rt : RegIdx) (_imm8 : BitVec 8) (s : State) : Out :=
  refuse s .doublewordP0W1

/-- LDREX, R240. -/
def execLdrex (cond : Cond) (rn rt : RegIdx) (s : State) : Out :=
  refusing s [(rt == 15#4, .registers), (rn == 15#4, .registers)]
    (gated cond s ((memReadX s (s.x rn)).orFault fun v s' => advance (s'.setX rt v)))

/-- STREX, R241. -/
def execStrex (cond : Cond) (rn rd rt : RegIdx) (s : State) : Out :=
  refusing s [(rd == 15#4, .registers), (rt == 15#4, .registers), (rn == 15#4, .registers), (rd == rn, .registers), (rd == rt, .registers)]
    (gated cond s ((memWriteX s (s.x rn) (s.x rt)).orFault fun done s' => advance (s'.setX rd (if done then 0#32 else 1#32))))

end Sys2Proof.Machine
end

