-- ==== Sys2Proof/Machine/HypPsr.lean ====
section
/-! DEFINITION. The hypercalls on the status registers, WFI and the reserved hypercall, 46_hypercall_psr.md. -/

namespace Sys2Proof.Machine

/-- `CpsrUpdate(value, mask)` as the end of an instruction: refused when the mode would be illegal (R33), else the PC advances. -/
def cpsrWrite (s : State) (value mask : Word) : Out :=
  match s.cpsrUpdate value mask with
  | some s' => advance s'
  | none => refuse s .illegalMode

/-- The mask bits CPS selects, R353: `A`, `I` and `F` at their places in the CPSR. -/
def cpsSelect (a i f : Bool) : Word :=
  (if a then 0x100#32 else 0#32) ||| (if i then 0x80#32 else 0#32) ||| (if f then 0x40#32 else 0#32)

/-- `value` of CPS before the mode change, R353: `imod = 10` clears the selected bits, `11` sets them. -/
def cpsMasks (cpsr sel : Word) (imod : BitVec 2) : Word :=
  if imod = 2#2 then cpsr &&& ~~~sel else if imod = 3#2 then cpsr ||| sel else cpsr

/-- `(value, mask)` of CPS, R353. -/
def cpsValue (cpsr sel : Word) (imod : BitVec 2) (m : Bool) (mode : BitVec 5) : Word × Word :=
  let v := cpsMasks cpsr sel imod
  let mask := if imod.getLsbD 1 then sel else 0#32
  if m then ((v &&& ~~~0x1F#32) ||| mode.setWidth 32, mask ||| 0x1F#32) else (v, mask)

/-- HYP.CPS, R353: nothing but the PC changes in User mode. -/
def execHypCps (cond : Cond) (imod : BitVec 2) (m a i f : Bool) (mode : BitVec 5) (s : State) : Out :=
  refusing s [(m && decide (s.mode ≠ .usr) && (modeOfBits mode).isNone, .illegalMode)]
    (gated cond s
      (if s.mode = .usr then advance s
       else
         let v := cpsValue s.cpsr (cpsSelect a i f) imod m mode
         cpsrWrite s v.1 v.2))

/-- The status register that `R` selects: the CPSR, or the SPSR where there is one (R36, R354). -/
def State.psr? (s : State) (r : Bool) : Option Word := if r then s.spsr? else some s.cpsr

/-- HYP.MRS, R354. -/
def execHypMrs (cond : Cond) (r : Bool) (rd : RegIdx) (s : State) : Out :=
  refusing s [(rd == 15#4, .registers)]
    (match s.psr? r with
    | none => refuse s .mode
    | some v => gated cond s (advance (s.setX rd v)))

/-- `PsrWrite(R, value, bm)`, R357: the CPSR checked and reduced in User mode, the SPSR unchecked. -/
def psrWrite (s : State) (r : Bool) (old value bm : Word) : Out :=
  if r then advance (s.setSpsrOf s.mode (mergeBits old value bm)) else cpsrWrite s value bm

/-- The work of MSR after the register refusals: the SPSR refusal (R36), the condition, the write (R355, R356). -/
def msrSteps (cond : Cond) (r : Bool) (mask : BitVec 4) (value : Word) (s : State) : Out :=
  match s.psr? r with
  | none => refuse s .mode
  | some old => gated cond s (psrWrite s r old value (byteMask mask))

/-- HYP.MSR (immediate), R355: the carry of the expansion is dropped. -/
def execHypMsrImmediate (cond : Cond) (r : Bool) (mask : BitVec 4) (imm12 : BitVec 12) (s : State) : Out :=
  msrSteps cond r mask (immediateOperand s imm12).1 s

/-- HYP.MSR (register), R356. -/
def execHypMsrRegister (cond : Cond) (r : Bool) (mask : BitVec 4) (rn : RegIdx) (s : State) : Out :=
  refusing s [(rn == 15#4, .registers)] (msrSteps cond r mask (s.x rn) s)

/-- HYP.WFI, R358: the wait event, then the PC; the wait itself is the environment's (log 31). -/
def execHypWfi (cond : Cond) (s : State) : Out := gated cond s (advance (s.emit .irqWait))

/-- SUBID 7: refused whatever the condition, R359. -/
def execHypSubid7 (_cond : Cond) (_low : BitVec 18) (s : State) : Out := refuse s .reservedHypercall

end Sys2Proof.Machine
end

