-- ==== Sys2Proof/Machine/HypReturn.lean ====
section
/-! DEFINITION. The hypercalls that return from an exception, save return state or move another mode's registers,
47_hypercall_return_transfer.md. -/

namespace Sys2Proof.Machine

/-- HYP.RFE, R381: the loaded CPSR is checked after both reads, before anything is written; write-back goes to the old mode's bank. -/
def execHypRfe (cond : Cond) (p u w : Bool) (rn : RegIdx) (s : State) : Out :=
  refusing s [(decide (s.mode = .usr), .mode), (rn == 15#4, .registers)]
    (gated cond s
      (let base := s.x rn
       let address := blockStart p u base 8#32
       (memRead s address .word false).orFault fun newpc s1 =>
         (memRead s1 (address + 4#32) .word false).orFault fun newcpsr s2 =>
           if legalMode newcpsr then exceptionReturn (s2.writeBack w rn (blockWriteBack u base 8#32)) newcpsr newpc
           else refuse s2 .illegalMode))

/-- The work of SRS, R382, in a legal target mode `m`, with the current mode's SPSR `saved`. -/
def srsSteps (p u w : Bool) (m : Mode) (saved : Word) (s : State) : Out :=
  let base := s.xm m 13#4
  let address := blockStart p u base 8#32
  ((memWrite s address .word (s.x 14#4) false).andThen fun _ s1 => memWrite s1 (address + 4#32) .word saved false).orFault fun _ s2 =>
    advance (if w then s2.setXm m 13#4 (blockWriteBack u base 8#32) else s2)

/-- HYP.SRS, R382. -/
def execHypSrs (cond : Cond) (p u w : Bool) (mode : BitVec 5) (s : State) : Out :=
  match s.spsr? with
  | none => refuse s .mode
  | some saved =>
    match modeOfBits mode with
    | none => refuse s .illegalMode
    | some m => gated cond s (srsSteps p u w m saved s)

/-- The work of LDM (exception return), R383: the registers, the PC word, write-back in the old mode's bank, the return. -/
def loadMultipleReturn (p u w : Bool) (rn : RegIdx) (regList : BitVec 16) (saved : Word) (s : State) : Out :=
  let base := s.x rn
  let len := blockLengthWord regList
  let start := blockStart p u base len
  (loadRegisters s.mode (listedRegisters regList) start (s.emitRange start regList)).orFault fun addr s1 =>
    (memRead s1 addr .word false).orFault fun newpc s2 =>
      exceptionReturn (s2.writeBack w rn (blockWriteBack u base len)) saved newpc

/-- HYP.LDM (exception return), R383. -/
def execHypLdmExceptionReturn (cond : Cond) (p u w : Bool) (rn : RegIdx) (regList : BitVec 16) (s : State) : Out :=
  match s.spsr? with
  | none => refuse s .mode
  | some saved =>
    refusing s [(rn == 15#4, .registers), (w && inList regList rn, .registers), (!legalMode saved, .illegalMode)]
      (gated cond s (loadMultipleReturn p u w rn regList saved s))

/-- HYP.LDM (user registers), R384: the base is the current mode's, the destinations are User's. -/
def execHypLdmUserRegisters (cond : Cond) (p u w : Bool) (rn : RegIdx) (regList : BitVec 16) (s : State) : Out :=
  refusing s [(!hasSpsr s.mode, .mode), (rn == 15#4, .registers), (w, .registers), (regList == 0#16, .registers)]
    (gated cond s
      (let start := blockStart p u (s.x rn) (blockLengthWord regList)
       (loadRegisters .usr (listedRegisters regList) start (s.emitRange start regList)).orFault fun _ s1 => advance s1))

/-- HYP.STM (user registers), R385: executes in every mode. -/
def execHypStmUserRegisters (cond : Cond) (p u : Bool) (rn : RegIdx) (regList : BitVec 16) (s : State) : Out :=
  refusing s [(rn == 15#4, .registers), (regList == 0#16, .registers)]
    (gated cond s
      (let start := blockStart p u (s.x rn) (blockLengthWord regList)
       ((storeRegisters .usr (listedRegisters regList) start (s.emitRange start regList)).andThen fun addr s1 =>
          storePc regList addr s1).orFault fun _ s2 => advance s2))

/-- The SUBS PC, LR family, R387: `operand` is `(op2, sc)`; the result becomes the PC, the SPSR the CPSR. -/
def subsPc (op : AluOp) (cond : Cond) (rn : RegIdx) (operand : Word × Bool) (s : State) : Out :=
  match s.spsr? with
  | none => refuse s .mode
  | some saved =>
    refusing s [(!legalMode saved, .illegalMode)]
      (gated cond s (exceptionReturn s saved (alu op (s.x rn) operand.1 (flagC s.cpsr) operand.2).value))

/-- HYP.ANDS PC (immediate), R388. -/
def execHypAndsPcImmediate (cond : Cond) (rn : RegIdx) (imm12 : BitVec 12) (s : State) : Out :=
  subsPc .and cond rn (immediateOperand s imm12) s

/-- HYP.ANDS PC (register), R388. -/
def execHypAndsPcRegister (cond : Cond) (rn : RegIdx) (imm5 : BitVec 5) (ty : BitVec 2) (rm : RegIdx) (s : State) : Out :=
  subsPc .and cond rn (shiftedRegister s imm5 ty rm) s

/-- HYP.EORS PC (immediate), R389. -/
def execHypEorsPcImmediate (cond : Cond) (rn : RegIdx) (imm12 : BitVec 12) (s : State) : Out :=
  subsPc .eor cond rn (immediateOperand s imm12) s

/-- HYP.EORS PC (register), R389. -/
def execHypEorsPcRegister (cond : Cond) (rn : RegIdx) (imm5 : BitVec 5) (ty : BitVec 2) (rm : RegIdx) (s : State) : Out :=
  subsPc .eor cond rn (shiftedRegister s imm5 ty rm) s

/-- HYP.SUBS PC (immediate), R390. -/
def execHypSubsPcImmediate (cond : Cond) (rn : RegIdx) (imm12 : BitVec 12) (s : State) : Out :=
  subsPc .sub cond rn (immediateOperand s imm12) s

/-- HYP.SUBS PC (register), R390. -/
def execHypSubsPcRegister (cond : Cond) (rn : RegIdx) (imm5 : BitVec 5) (ty : BitVec 2) (rm : RegIdx) (s : State) : Out :=
  subsPc .sub cond rn (shiftedRegister s imm5 ty rm) s

/-- HYP.RSBS PC (immediate), R391. -/
def execHypRsbsPcImmediate (cond : Cond) (rn : RegIdx) (imm12 : BitVec 12) (s : State) : Out :=
  subsPc .rsb cond rn (immediateOperand s imm12) s

/-- HYP.RSBS PC (register), R391. -/
def execHypRsbsPcRegister (cond : Cond) (rn : RegIdx) (imm5 : BitVec 5) (ty : BitVec 2) (rm : RegIdx) (s : State) : Out :=
  subsPc .rsb cond rn (shiftedRegister s imm5 ty rm) s

/-- HYP.ADDS PC (immediate), R392. -/
def execHypAddsPcImmediate (cond : Cond) (rn : RegIdx) (imm12 : BitVec 12) (s : State) : Out :=
  subsPc .add cond rn (immediateOperand s imm12) s

/-- HYP.ADDS PC (register), R392. -/
def execHypAddsPcRegister (cond : Cond) (rn : RegIdx) (imm5 : BitVec 5) (ty : BitVec 2) (rm : RegIdx) (s : State) : Out :=
  subsPc .add cond rn (shiftedRegister s imm5 ty rm) s

/-- HYP.ADCS PC (immediate), R393. -/
def execHypAdcsPcImmediate (cond : Cond) (rn : RegIdx) (imm12 : BitVec 12) (s : State) : Out :=
  subsPc .adc cond rn (immediateOperand s imm12) s

/-- HYP.ADCS PC (register), R393. -/
def execHypAdcsPcRegister (cond : Cond) (rn : RegIdx) (imm5 : BitVec 5) (ty : BitVec 2) (rm : RegIdx) (s : State) : Out :=
  subsPc .adc cond rn (shiftedRegister s imm5 ty rm) s

/-- HYP.SBCS PC (immediate), R394. -/
def execHypSbcsPcImmediate (cond : Cond) (rn : RegIdx) (imm12 : BitVec 12) (s : State) : Out :=
  subsPc .sbc cond rn (immediateOperand s imm12) s

/-- HYP.SBCS PC (register), R394. -/
def execHypSbcsPcRegister (cond : Cond) (rn : RegIdx) (imm5 : BitVec 5) (ty : BitVec 2) (rm : RegIdx) (s : State) : Out :=
  subsPc .sbc cond rn (shiftedRegister s imm5 ty rm) s

/-- HYP.RSCS PC (immediate), R395. -/
def execHypRscsPcImmediate (cond : Cond) (rn : RegIdx) (imm12 : BitVec 12) (s : State) : Out :=
  subsPc .rsc cond rn (immediateOperand s imm12) s

/-- HYP.RSCS PC (register), R395. -/
def execHypRscsPcRegister (cond : Cond) (rn : RegIdx) (imm5 : BitVec 5) (ty : BitVec 2) (rm : RegIdx) (s : State) : Out :=
  subsPc .rsc cond rn (shiftedRegister s imm5 ty rm) s

/-- HYP.ORRS PC (immediate), R396. -/
def execHypOrrsPcImmediate (cond : Cond) (rn : RegIdx) (imm12 : BitVec 12) (s : State) : Out :=
  subsPc .orr cond rn (immediateOperand s imm12) s

/-- HYP.ORRS PC (register), R396. -/
def execHypOrrsPcRegister (cond : Cond) (rn : RegIdx) (imm5 : BitVec 5) (ty : BitVec 2) (rm : RegIdx) (s : State) : Out :=
  subsPc .orr cond rn (shiftedRegister s imm5 ty rm) s

/-- HYP.MOVS PC (immediate), R397. -/
def execHypMovsPcImmediate (cond : Cond) (rn : RegIdx) (imm12 : BitVec 12) (s : State) : Out :=
  subsPc .mov cond rn (immediateOperand s imm12) s

/-- HYP.MOVS PC (register), R397. -/
def execHypMovsPcRegister (cond : Cond) (rn : RegIdx) (imm5 : BitVec 5) (ty : BitVec 2) (rm : RegIdx) (s : State) : Out :=
  subsPc .mov cond rn (shiftedRegister s imm5 ty rm) s

/-- HYP.BICS PC (immediate), R398. -/
def execHypBicsPcImmediate (cond : Cond) (rn : RegIdx) (imm12 : BitVec 12) (s : State) : Out :=
  subsPc .bic cond rn (immediateOperand s imm12) s

/-- HYP.BICS PC (register), R398. -/
def execHypBicsPcRegister (cond : Cond) (rn : RegIdx) (imm5 : BitVec 5) (ty : BitVec 2) (rm : RegIdx) (s : State) : Out :=
  subsPc .bic cond rn (shiftedRegister s imm5 ty rm) s

/-- HYP.MVNS PC (immediate), R399. -/
def execHypMvnsPcImmediate (cond : Cond) (rn : RegIdx) (imm12 : BitVec 12) (s : State) : Out :=
  subsPc .mvn cond rn (immediateOperand s imm12) s

/-- HYP.MVNS PC (register), R399. -/
def execHypMvnsPcRegister (cond : Cond) (rn : RegIdx) (imm5 : BitVec 5) (ty : BitVec 2) (rm : RegIdx) (s : State) : Out :=
  subsPc .mvn cond rn (shiftedRegister s imm5 ty rm) s

end Sys2Proof.Machine
end

