-- ==== Sys2Proof/Machine/LoadStore.lean ====
section
/-! DEFINITION. Loads and stores of words and unsigned bytes and the media space, 43_load_store_word_byte.md. -/

namespace Sys2Proof.Machine

/-- STR (immediate), R264. -/
def execStrImmediate (cond : Cond) (idx : Indexing) (u : Bool) (rn rt : RegIdx) (imm12 : BitVec 12) (s : State) : Out :=
  storeImmediate .word cond idx u rn rt (imm12.setWidth 32) s

/-- STR (register), R264. -/
def execStrRegister (cond : Cond) (idx : Indexing) (u : Bool) (rn rt : RegIdx) (imm5 : BitVec 5) (ty : BitVec 2) (rm : RegIdx)
    (s : State) : Out :=
  storeRegister .word cond idx u rn rt rm (shiftedRegister s imm5 ty rm).1 s

/-- LDR (immediate), R265. -/
def execLdrImmediate (cond : Cond) (idx : Indexing) (u : Bool) (rn rt : RegIdx) (imm12 : BitVec 12) (s : State) : Out :=
  loadImmediate .word cond idx u rn rt (imm12.setWidth 32) s

/-- LDR (literal), R265, R262. -/
def execLdrLiteral (cond : Cond) (idx : Indexing) (u : Bool) (rt : RegIdx) (imm12 : BitVec 12) (s : State) : Out :=
  loadLiteral .word cond idx u rt (imm12.setWidth 32) s

/-- LDR (register), R265. -/
def execLdrRegister (cond : Cond) (idx : Indexing) (u : Bool) (rn rt : RegIdx) (imm5 : BitVec 5) (ty : BitVec 2) (rm : RegIdx)
    (s : State) : Out :=
  loadRegister .word cond idx u rn rt rm (shiftedRegister s imm5 ty rm).1 s

/-- STRB (immediate), R266. -/
def execStrbImmediate (cond : Cond) (idx : Indexing) (u : Bool) (rn rt : RegIdx) (imm12 : BitVec 12) (s : State) : Out :=
  storeImmediate .byte cond idx u rn rt (imm12.setWidth 32) s

/-- STRB (register), R266. -/
def execStrbRegister (cond : Cond) (idx : Indexing) (u : Bool) (rn rt : RegIdx) (imm5 : BitVec 5) (ty : BitVec 2) (rm : RegIdx)
    (s : State) : Out :=
  storeRegister .byte cond idx u rn rt rm (shiftedRegister s imm5 ty rm).1 s

/-- LDRB (immediate), R267. -/
def execLdrbImmediate (cond : Cond) (idx : Indexing) (u : Bool) (rn rt : RegIdx) (imm12 : BitVec 12) (s : State) : Out :=
  loadImmediate .ubyte cond idx u rn rt (imm12.setWidth 32) s

/-- LDRB (literal), R267, R262. -/
def execLdrbLiteral (cond : Cond) (idx : Indexing) (u : Bool) (rt : RegIdx) (imm12 : BitVec 12) (s : State) : Out :=
  loadLiteral .ubyte cond idx u rt (imm12.setWidth 32) s

/-- LDRB (register), R267. -/
def execLdrbRegister (cond : Cond) (idx : Indexing) (u : Bool) (rn rt : RegIdx) (imm5 : BitVec 5) (ty : BitVec 2) (rm : RegIdx)
    (s : State) : Out :=
  loadRegister .ubyte cond idx u rn rt rm (shiftedRegister s imm5 ty rm).1 s

/-- STRT (immediate), R268. -/
def execStrtImmediate (cond : Cond) (u : Bool) (rn rt : RegIdx) (imm12 : BitVec 12) (s : State) : Out :=
  storeTImmediate .word cond u rn rt (imm12.setWidth 32) s

/-- STRT (register), R268. -/
def execStrtRegister (cond : Cond) (u : Bool) (rn rt : RegIdx) (imm5 : BitVec 5) (ty : BitVec 2) (rm : RegIdx) (s : State) : Out :=
  storeTRegister .word cond u rn rt rm (shiftedRegister s imm5 ty rm).1 s

/-- LDRT (immediate), R269. -/
def execLdrtImmediate (cond : Cond) (u : Bool) (rn rt : RegIdx) (imm12 : BitVec 12) (s : State) : Out :=
  loadTImmediate .word cond u rn rt (imm12.setWidth 32) s

/-- LDRT (register), R269. -/
def execLdrtRegister (cond : Cond) (u : Bool) (rn rt : RegIdx) (imm5 : BitVec 5) (ty : BitVec 2) (rm : RegIdx) (s : State) : Out :=
  loadTRegister .word cond u rn rt rm (shiftedRegister s imm5 ty rm).1 s

/-- STRBT (immediate), R270. -/
def execStrbtImmediate (cond : Cond) (u : Bool) (rn rt : RegIdx) (imm12 : BitVec 12) (s : State) : Out :=
  storeTImmediate .byte cond u rn rt (imm12.setWidth 32) s

/-- STRBT (register), R270. -/
def execStrbtRegister (cond : Cond) (u : Bool) (rn rt : RegIdx) (imm5 : BitVec 5) (ty : BitVec 2) (rm : RegIdx) (s : State) : Out :=
  storeTRegister .byte cond u rn rt rm (shiftedRegister s imm5 ty rm).1 s

/-- LDRBT (immediate), R271. -/
def execLdrbtImmediate (cond : Cond) (u : Bool) (rn rt : RegIdx) (imm12 : BitVec 12) (s : State) : Out :=
  loadTImmediate .ubyte cond u rn rt (imm12.setWidth 32) s

/-- LDRBT (register), R271. -/
def execLdrbtRegister (cond : Cond) (u : Bool) (rn rt : RegIdx) (imm5 : BitVec 5) (ty : BitVec 2) (rm : RegIdx) (s : State) : Out :=
  loadTRegister .ubyte cond u rn rt rm (shiftedRegister s imm5 ty rm).1 s

/-- The media space: refused whatever the condition, R272. -/
def execMediaSpace (_cond : Cond) (_hi : BitVec 20) (_lo : BitVec 4) (s : State) : Out := refuse s .media

end Sys2Proof.Machine
end

