-- ==== Sys2Proof/Machine/Dispatch.lean ====
section
/-! DEFINITION. The dispatch: one arm per constructor of `Instr`, each one direct call of the instruction's meaning. -/

namespace Sys2Proof.Machine

def exec (i : Instr) (s : State) : Host.Outcome State Fault Refusal :=
  match i with
  | .andImmediate cond sf rn rd imm12 => Sys2Proof.Machine.execAndImmediate cond sf rn rd imm12 s
  | .andRegister cond sf rn rd imm5 ty rm => Sys2Proof.Machine.execAndRegister cond sf rn rd imm5 ty rm s
  | .eorImmediate cond sf rn rd imm12 => Sys2Proof.Machine.execEorImmediate cond sf rn rd imm12 s
  | .eorRegister cond sf rn rd imm5 ty rm => Sys2Proof.Machine.execEorRegister cond sf rn rd imm5 ty rm s
  | .subImmediate cond sf rn rd imm12 => Sys2Proof.Machine.execSubImmediate cond sf rn rd imm12 s
  | .subRegister cond sf rn rd imm5 ty rm => Sys2Proof.Machine.execSubRegister cond sf rn rd imm5 ty rm s
  | .rsbImmediate cond sf rn rd imm12 => Sys2Proof.Machine.execRsbImmediate cond sf rn rd imm12 s
  | .rsbRegister cond sf rn rd imm5 ty rm => Sys2Proof.Machine.execRsbRegister cond sf rn rd imm5 ty rm s
  | .addImmediate cond sf rn rd imm12 => Sys2Proof.Machine.execAddImmediate cond sf rn rd imm12 s
  | .addRegister cond sf rn rd imm5 ty rm => Sys2Proof.Machine.execAddRegister cond sf rn rd imm5 ty rm s
  | .adcImmediate cond sf rn rd imm12 => Sys2Proof.Machine.execAdcImmediate cond sf rn rd imm12 s
  | .adcRegister cond sf rn rd imm5 ty rm => Sys2Proof.Machine.execAdcRegister cond sf rn rd imm5 ty rm s
  | .sbcImmediate cond sf rn rd imm12 => Sys2Proof.Machine.execSbcImmediate cond sf rn rd imm12 s
  | .sbcRegister cond sf rn rd imm5 ty rm => Sys2Proof.Machine.execSbcRegister cond sf rn rd imm5 ty rm s
  | .rscImmediate cond sf rn rd imm12 => Sys2Proof.Machine.execRscImmediate cond sf rn rd imm12 s
  | .rscRegister cond sf rn rd imm5 ty rm => Sys2Proof.Machine.execRscRegister cond sf rn rd imm5 ty rm s
  | .orrImmediate cond sf rn rd imm12 => Sys2Proof.Machine.execOrrImmediate cond sf rn rd imm12 s
  | .orrRegister cond sf rn rd imm5 ty rm => Sys2Proof.Machine.execOrrRegister cond sf rn rd imm5 ty rm s
  | .movImmediate cond sf rn rd imm12 => Sys2Proof.Machine.execMovImmediate cond sf rn rd imm12 s
  | .movRegister cond sf rn rd imm5 ty rm => Sys2Proof.Machine.execMovRegister cond sf rn rd imm5 ty rm s
  | .bicImmediate cond sf rn rd imm12 => Sys2Proof.Machine.execBicImmediate cond sf rn rd imm12 s
  | .bicRegister cond sf rn rd imm5 ty rm => Sys2Proof.Machine.execBicRegister cond sf rn rd imm5 ty rm s
  | .mvnImmediate cond sf rn rd imm12 => Sys2Proof.Machine.execMvnImmediate cond sf rn rd imm12 s
  | .mvnRegister cond sf rn rd imm5 ty rm => Sys2Proof.Machine.execMvnRegister cond sf rn rd imm5 ty rm s
  | .movw cond rd imm16 => Sys2Proof.Machine.execMovw cond rd imm16 s
  | .strhImmediate cond idx u rn rt imm8 => Sys2Proof.Machine.execStrhImmediate cond idx u rn rt imm8 s
  | .strhRegister cond idx u rn rt rm => Sys2Proof.Machine.execStrhRegister cond idx u rn rt rm s
  | .ldrhImmediate cond idx u rn rt imm8 => Sys2Proof.Machine.execLdrhImmediate cond idx u rn rt imm8 s
  | .ldrhLiteral cond idx u rt imm8 => Sys2Proof.Machine.execLdrhLiteral cond idx u rt imm8 s
  | .ldrhRegister cond idx u rn rt rm => Sys2Proof.Machine.execLdrhRegister cond idx u rn rt rm s
  | .ldrdImmediate cond idx u rn rt imm8 => Sys2Proof.Machine.execLdrdImmediate cond idx u rn rt imm8 s
  | .ldrdLiteral cond idx u rt imm8 => Sys2Proof.Machine.execLdrdLiteral cond idx u rt imm8 s
  | .ldrdRegister cond idx u rn rt rm => Sys2Proof.Machine.execLdrdRegister cond idx u rn rt rm s
  | .strdImmediate cond idx u rn rt imm8 => Sys2Proof.Machine.execStrdImmediate cond idx u rn rt imm8 s
  | .strdRegister cond idx u rn rt rm => Sys2Proof.Machine.execStrdRegister cond idx u rn rt rm s
  | .ldrsbImmediate cond idx u rn rt imm8 => Sys2Proof.Machine.execLdrsbImmediate cond idx u rn rt imm8 s
  | .ldrsbLiteral cond idx u rt imm8 => Sys2Proof.Machine.execLdrsbLiteral cond idx u rt imm8 s
  | .ldrsbRegister cond idx u rn rt rm => Sys2Proof.Machine.execLdrsbRegister cond idx u rn rt rm s
  | .ldrshImmediate cond idx u rn rt imm8 => Sys2Proof.Machine.execLdrshImmediate cond idx u rn rt imm8 s
  | .ldrshLiteral cond idx u rt imm8 => Sys2Proof.Machine.execLdrshLiteral cond idx u rt imm8 s
  | .ldrshRegister cond idx u rn rt rm => Sys2Proof.Machine.execLdrshRegister cond idx u rn rt rm s
  | .strhtImmediate cond u rn rt imm8 => Sys2Proof.Machine.execStrhtImmediate cond u rn rt imm8 s
  | .strhtRegister cond u rn rt rm => Sys2Proof.Machine.execStrhtRegister cond u rn rt rm s
  | .ldrhtImmediate cond u rn rt imm8 => Sys2Proof.Machine.execLdrhtImmediate cond u rn rt imm8 s
  | .ldrhtRegister cond u rn rt rm => Sys2Proof.Machine.execLdrhtRegister cond u rn rt rm s
  | .ldrsbtImmediate cond u rn rt imm8 => Sys2Proof.Machine.execLdrsbtImmediate cond u rn rt imm8 s
  | .ldrsbtRegister cond u rn rt rm => Sys2Proof.Machine.execLdrsbtRegister cond u rn rt rm s
  | .ldrshtImmediate cond u rn rt imm8 => Sys2Proof.Machine.execLdrshtImmediate cond u rn rt imm8 s
  | .ldrshtRegister cond u rn rt rm => Sys2Proof.Machine.execLdrshtRegister cond u rn rt rm s
  | .doublewordP0W1 cond store u im rn rt imm8 => Sys2Proof.Machine.execDoublewordP0W1 cond store u im rn rt imm8 s
  | .ldrex cond rn rt => Sys2Proof.Machine.execLdrex cond rn rt s
  | .strex cond rn rd rt => Sys2Proof.Machine.execStrex cond rn rd rt s
  | .strImmediate cond idx u rn rt imm12 => Sys2Proof.Machine.execStrImmediate cond idx u rn rt imm12 s
  | .strRegister cond idx u rn rt imm5 ty rm => Sys2Proof.Machine.execStrRegister cond idx u rn rt imm5 ty rm s
  | .ldrImmediate cond idx u rn rt imm12 => Sys2Proof.Machine.execLdrImmediate cond idx u rn rt imm12 s
  | .ldrLiteral cond idx u rt imm12 => Sys2Proof.Machine.execLdrLiteral cond idx u rt imm12 s
  | .ldrRegister cond idx u rn rt imm5 ty rm => Sys2Proof.Machine.execLdrRegister cond idx u rn rt imm5 ty rm s
  | .strbImmediate cond idx u rn rt imm12 => Sys2Proof.Machine.execStrbImmediate cond idx u rn rt imm12 s
  | .strbRegister cond idx u rn rt imm5 ty rm => Sys2Proof.Machine.execStrbRegister cond idx u rn rt imm5 ty rm s
  | .ldrbImmediate cond idx u rn rt imm12 => Sys2Proof.Machine.execLdrbImmediate cond idx u rn rt imm12 s
  | .ldrbLiteral cond idx u rt imm12 => Sys2Proof.Machine.execLdrbLiteral cond idx u rt imm12 s
  | .ldrbRegister cond idx u rn rt imm5 ty rm => Sys2Proof.Machine.execLdrbRegister cond idx u rn rt imm5 ty rm s
  | .strtImmediate cond u rn rt imm12 => Sys2Proof.Machine.execStrtImmediate cond u rn rt imm12 s
  | .strtRegister cond u rn rt imm5 ty rm => Sys2Proof.Machine.execStrtRegister cond u rn rt imm5 ty rm s
  | .ldrtImmediate cond u rn rt imm12 => Sys2Proof.Machine.execLdrtImmediate cond u rn rt imm12 s
  | .ldrtRegister cond u rn rt imm5 ty rm => Sys2Proof.Machine.execLdrtRegister cond u rn rt imm5 ty rm s
  | .strbtImmediate cond u rn rt imm12 => Sys2Proof.Machine.execStrbtImmediate cond u rn rt imm12 s
  | .strbtRegister cond u rn rt imm5 ty rm => Sys2Proof.Machine.execStrbtRegister cond u rn rt imm5 ty rm s
  | .ldrbtImmediate cond u rn rt imm12 => Sys2Proof.Machine.execLdrbtImmediate cond u rn rt imm12 s
  | .ldrbtRegister cond u rn rt imm5 ty rm => Sys2Proof.Machine.execLdrbtRegister cond u rn rt imm5 ty rm s
  | .mediaSpace cond hi lo => Sys2Proof.Machine.execMediaSpace cond hi lo s
  | .stmda cond w rn regList => Sys2Proof.Machine.execStmda cond w rn regList s
  | .stmia cond w rn regList => Sys2Proof.Machine.execStmia cond w rn regList s
  | .stmdb cond w rn regList => Sys2Proof.Machine.execStmdb cond w rn regList s
  | .stmib cond w rn regList => Sys2Proof.Machine.execStmib cond w rn regList s
  | .ldmda cond w rn regList => Sys2Proof.Machine.execLdmda cond w rn regList s
  | .ldmia cond w rn regList => Sys2Proof.Machine.execLdmia cond w rn regList s
  | .ldmdb cond w rn regList => Sys2Proof.Machine.execLdmdb cond w rn regList s
  | .ldmib cond w rn regList => Sys2Proof.Machine.execLdmib cond w rn regList s
  | .blockNativeS cond p u w l rn regList => Sys2Proof.Machine.execBlockNativeS cond p u w l rn regList s
  | .b cond imm24 => Sys2Proof.Machine.execB cond imm24 s
  | .bl cond imm24 => Sys2Proof.Machine.execBl cond imm24 s
  | .vfpSpace cond op mid odd low => Sys2Proof.Machine.execVfpSpace cond op mid odd low s
  | .stc cond p u d w rn crd coproc imm8 => Sys2Proof.Machine.execStc cond p u d w rn crd coproc imm8 s
  | .ldcImmediate cond p u d w rn crd coproc imm8 => Sys2Proof.Machine.execLdcImmediate cond p u d w rn crd coproc imm8 s
  | .ldcLiteral cond p u d w crd coproc imm8 => Sys2Proof.Machine.execLdcLiteral cond p u d w crd coproc imm8 s
  | .mcrr cond rt2 rt coproc opc1 crm => Sys2Proof.Machine.execMcrr cond rt2 rt coproc opc1 crm s
  | .mrrc cond rt2 rt coproc opc1 crm => Sys2Proof.Machine.execMrrc cond rt2 rt coproc opc1 crm s
  | .cpSpace1100000x cond l rn crd coproc imm8 => Sys2Proof.Machine.execCpSpace1100000x cond l rn crd coproc imm8 s
  | .mcr cond opc1 crn rt coproc opc2 crm => Sys2Proof.Machine.execMcr cond opc1 crn rt coproc opc2 crm s
  | .mrc cond opc1 crn rt coproc opc2 crm => Sys2Proof.Machine.execMrc cond opc1 crn rt coproc opc2 crm s
  | .cdp cond opc1 crn crd coproc opc2 crm => Sys2Proof.Machine.execCdp cond opc1 crn crd coproc opc2 crm s
  | .hypCps cond imod m a im f mode => Sys2Proof.Machine.execHypCps cond imod m a im f mode s
  | .hypMrs cond r rd => Sys2Proof.Machine.execHypMrs cond r rd s
  | .hypMsrImmediate cond r mask imm12 => Sys2Proof.Machine.execHypMsrImmediate cond r mask imm12 s
  | .hypMsrRegister cond r mask rn => Sys2Proof.Machine.execHypMsrRegister cond r mask rn s
  | .hypRfe cond p u w rn => Sys2Proof.Machine.execHypRfe cond p u w rn s
  | .hypSrs cond p u w mode => Sys2Proof.Machine.execHypSrs cond p u w mode s
  | .hypWfi cond => Sys2Proof.Machine.execHypWfi cond s
  | .hypSubid7 cond low => Sys2Proof.Machine.execHypSubid7 cond low s
  | .hypLdmExceptionReturn cond p u w rn regList => Sys2Proof.Machine.execHypLdmExceptionReturn cond p u w rn regList s
  | .hypLdmUserRegisters cond p u w rn regList => Sys2Proof.Machine.execHypLdmUserRegisters cond p u w rn regList s
  | .hypStmUserRegisters cond p u rn regList => Sys2Proof.Machine.execHypStmUserRegisters cond p u rn regList s
  | .hypAndsPcImmediate cond rn imm12 => Sys2Proof.Machine.execHypAndsPcImmediate cond rn imm12 s
  | .hypAndsPcRegister cond rn imm5 ty rm => Sys2Proof.Machine.execHypAndsPcRegister cond rn imm5 ty rm s
  | .hypEorsPcImmediate cond rn imm12 => Sys2Proof.Machine.execHypEorsPcImmediate cond rn imm12 s
  | .hypEorsPcRegister cond rn imm5 ty rm => Sys2Proof.Machine.execHypEorsPcRegister cond rn imm5 ty rm s
  | .hypSubsPcImmediate cond rn imm12 => Sys2Proof.Machine.execHypSubsPcImmediate cond rn imm12 s
  | .hypSubsPcRegister cond rn imm5 ty rm => Sys2Proof.Machine.execHypSubsPcRegister cond rn imm5 ty rm s
  | .hypRsbsPcImmediate cond rn imm12 => Sys2Proof.Machine.execHypRsbsPcImmediate cond rn imm12 s
  | .hypRsbsPcRegister cond rn imm5 ty rm => Sys2Proof.Machine.execHypRsbsPcRegister cond rn imm5 ty rm s
  | .hypAddsPcImmediate cond rn imm12 => Sys2Proof.Machine.execHypAddsPcImmediate cond rn imm12 s
  | .hypAddsPcRegister cond rn imm5 ty rm => Sys2Proof.Machine.execHypAddsPcRegister cond rn imm5 ty rm s
  | .hypAdcsPcImmediate cond rn imm12 => Sys2Proof.Machine.execHypAdcsPcImmediate cond rn imm12 s
  | .hypAdcsPcRegister cond rn imm5 ty rm => Sys2Proof.Machine.execHypAdcsPcRegister cond rn imm5 ty rm s
  | .hypSbcsPcImmediate cond rn imm12 => Sys2Proof.Machine.execHypSbcsPcImmediate cond rn imm12 s
  | .hypSbcsPcRegister cond rn imm5 ty rm => Sys2Proof.Machine.execHypSbcsPcRegister cond rn imm5 ty rm s
  | .hypRscsPcImmediate cond rn imm12 => Sys2Proof.Machine.execHypRscsPcImmediate cond rn imm12 s
  | .hypRscsPcRegister cond rn imm5 ty rm => Sys2Proof.Machine.execHypRscsPcRegister cond rn imm5 ty rm s
  | .hypOrrsPcImmediate cond rn imm12 => Sys2Proof.Machine.execHypOrrsPcImmediate cond rn imm12 s
  | .hypOrrsPcRegister cond rn imm5 ty rm => Sys2Proof.Machine.execHypOrrsPcRegister cond rn imm5 ty rm s
  | .hypMovsPcImmediate cond rn imm12 => Sys2Proof.Machine.execHypMovsPcImmediate cond rn imm12 s
  | .hypMovsPcRegister cond rn imm5 ty rm => Sys2Proof.Machine.execHypMovsPcRegister cond rn imm5 ty rm s
  | .hypBicsPcImmediate cond rn imm12 => Sys2Proof.Machine.execHypBicsPcImmediate cond rn imm12 s
  | .hypBicsPcRegister cond rn imm5 ty rm => Sys2Proof.Machine.execHypBicsPcRegister cond rn imm5 ty rm s
  | .hypMvnsPcImmediate cond rn imm12 => Sys2Proof.Machine.execHypMvnsPcImmediate cond rn imm12 s
  | .hypMvnsPcRegister cond rn imm5 ty rm => Sys2Proof.Machine.execHypMvnsPcRegister cond rn imm5 ty rm s

end Sys2Proof.Machine
end

