-- ==== Sys2Proof/Machine/Fetch.lean ====
section
/-! DEFINITION. The caller's side of an invocation, as the reference harness of R466 plays it: the preconditions (R44, R463), the fetch, the
decoder under the hypercall layout in force, the empty event list an invocation starts with, and the placing of a word where the next fetch reads it. -/

namespace Sys2Proof.Machine

/-- `TTBL_MIN_PAGE_SIZE` is a power of two not smaller than 64 (R6, R463 (d)). -/
def pageSizeOk (n : Nat) : Bool := decide (64 ≤ n) && decide (n = 2 ^ n.log2)

/-- What must hold before the rules apply (R44, R463): none when it does (log 12). -/
def precondition (s : State) : Option Refusal :=
  if s.halted then some .vcpuHalted
  else if !legalMode s.cpsr then some .illegalMode
  else if !pageSizeOk s.ttblMinPageSize then some .badPageSize
  else none

/-- The little-endian word at the PC, any alignment, no port event, no fault (R466). -/
def fetchWord (s : State) : Word := s.mem.read32 s.pc

/-- What another build's layout reads in a payload: the form its free value gives, when that is a hypercall form with operands it can have
and the condition of the word (R350); otherwise the payload is unmapped (R107; log 17). -/
def buildForms (n : Nat) (f : Fields) : Except DecodeReject Instr :=
  match Config.hypForm n f.cond f.imm24 with
  | some i => if i.isHypercall && i.wellFormed && i.cond == f.cond then .ok i else .error .hypNoForm
  | none => .error .hypNoForm

/-- The reading of the hypercall space under a layout (R6, R350). -/
def hypForms : HypLayout → HypForms
  | .h0 => decodeHyp
  | .build n => buildForms n

/-- The decoder under a hypercall layout (R94, R96, R350). -/
def decodeIn (layout : HypLayout) (hyp : Bool) (w : Word) : Except DecodeReject Instr := decodeFields (hypForms layout) hyp (fieldsOf w)

/-- An invocation starts with no event and no result (R5, R46). -/
def State.begin (s : State) : State := { s with events := [], result := none }

/-- The state with a word stored where the next fetch reads it, the hypercall flag off as in the harness and the layout H0, that of the
opcode table (R350, R466; log 11). -/
def State.placeWord (s : State) (w : Word) : State := { s with mem := s.mem.write32 s.pc w, hypLayout := .h0, hyp := false }

end Sys2Proof.Machine
end

