-- ==== Sys2Proof/Machine/Step.lean ====
section
/-! DEFINITION. One step of the machine: one fetch and one invocation, as in the reference harness (R466). -/

namespace Sys2Proof.Machine

/-- One step (R1, R466): the preconditions, the fetch, the decoder, the instruction. A word of no row is refused (R107). -/
def step (s : State) : Host.Outcome State Fault Refusal :=
  match precondition s with
  | some why => .refused why
  | none =>
    match decodeIn s.hypLayout s.hyp (fetchWord s) with
    | .error why => refuse s.begin (.unmapped why)
    | .ok i => exec i s.begin

/-- The state with the bits `w` of a table row stored where `step` fetches its next instruction (log 11). -/
def State.withFetchWord (s : State) (nbits w : Nat) : State := s.placeWord (BitVec.ofNat 32 (w % 2 ^ nbits))

end Sys2Proof.Machine
end

