-- ==== Sys2Proof/Machine/Harness.lean ====
section
/-! DEFINITION. The reference harness of R466: the state a program starts from, and the run of a program through the block, which fetches,
invokes with `hyp = 0`, traces, and stops at the first result other than Ok. -/

namespace Sys2Proof.Machine

/-- The registry with the reference coprocessor, at its reset value, at the numbers named and nothing at the others (R466). Each
number has registers of its own (DESIGN CHOICE: R335 and R466 do not say whether two numbers share one object; log 36). -/
def referenceRegistry (numbers : List (BitVec 4)) : Vector (Option CopObject) 16 :=
  Vector.ofFn fun k => if BitVec.ofFin k ∈ numbers then some CopObject.referenceReset else none

/-- Guest memory with the words of a program's image, every other byte as it was (R466). -/
def Memory.placeImage (m : Memory) (image : List (Word × Word)) : Memory := image.foldl (fun m p => m.write32 p.1 p.2) m

/-- The start of a program (R461, R466): the reset state, the reference coprocessor at the numbers named, the image in memory. -/
def harnessStart (numbers : List (BitVec 4)) (image : List (Word × Word)) : State :=
  { State.reset with coprocs := referenceRegistry numbers, mem := State.reset.mem.placeImage image }

/-- `Invoke(state, inst, hyp = 0)`, R466, of the word at the PC. -/
def harnessInvoke (s : State) : Out := step { s with hyp := false }

/-- Why a run stops. -/
inductive RunStop where
  /-- `max_steps` invocations have been made. -/
  | maxSteps
  /-- The last invocation gave a result other than Ok. -/
  | notOk
  /-- The model stopped in the invocation after the last one traced (log 9). -/
  | fault (why : Fault)
  /-- A precondition of the invocation after the last one traced does not hold (log 12). -/
  | refused (why : Refusal)
  deriving DecidableEq, Repr

/-- What a run gives: the trace of R466, the state it leaves, and why it stopped. -/
structure HarnessRun where
  /-- `(inst, result)` of each invocation, in order. -/
  trace : List (Word × Option ResultKind)
  /-- The state after the last invocation traced. -/
  state : State
  /-- Why no further invocation was made. -/
  stop : RunStop
  deriving DecidableEq, Repr

/-- A run with an earlier invocation before it. -/
def HarnessRun.cons (e : Word × Option ResultKind) (r : HarnessRun) : HarnessRun := { r with trace := e :: r.trace }

/-- `Run(state, max_steps)`, R466. -/
def runHarness : Nat → State → HarnessRun
  | 0, s => ⟨[], s, .maxSteps⟩
  | n + 1, s =>
    match harnessInvoke s with
    | .next t => if t.result = some .ok then (runHarness n t).cons (fetchWord s, t.result) else ⟨[(fetchWord s, t.result)], t, .notOk⟩
    | .fault why => ⟨[], s, .fault why⟩
    | .refused why => ⟨[], s, .refused why⟩

end Sys2Proof.Machine
end

