-- ==== Sys2Proof/Safety.lean ====
section
/-! DEFINITION. What counts as a safe state, how an invocation ends and what it leaves alone, and the instruction families of the opcode
table: the terms the statements use. -/

namespace Sys2Proof.Machine

/-! ### Safe states -/

/-- The canonical form of a coprocessor object's data: the maps of a reference coprocessor (R335) are in canonical form. -/
def copWf : Option CopObject → Bool
  | some ⟨_, .reference r⟩ => cellsWf 0#32 (2 ^ 14) 0 r.reg && cellsWf (0#32, 0#32) (2 ^ 8) 0 r.pair
  | _ => true

/-- The invariant of the machine. -/
structure Inv (s : State) : Prop where
  /-- "mode is always one of the seven legal ARM modes" (R31). -/
  mode : legalMode s.cpsr = true
  /-- Guest memory is in its canonical form. -/
  mem : s.mem.wf = true
  /-- Every coprocessor object is in its canonical form. -/
  cops : ∀ n : BitVec 4, copWf (s.cop n) = true
  /-- `TTBL_MIN_PAGE_SIZE` is legal (R6). -/
  page : pageSizeOk s.ttblMinPageSize = true
  /-- The vCPU is halted exactly when the last invocation ended Unpredictable (R423). -/
  halted : s.halted = true ↔ ∃ why, s.result = some (.unpredictable why)

/-- The reference memory with no faulting address answers the port (R81). -/
def PlainMemory (s : State) : Prop := ∃ done, s.port = .reference [] done

/-- The ports of the reference harness (R466): the reference memory and nothing but reference coprocessors. -/
structure HarnessPorts (s : State) : Prop where
  memory : ∃ faults done, s.port = .reference faults done
  coprocs : ∀ (n : BitVec 4) (o : CopObject), s.cop n = some o → ∃ r, o.unit = .reference r

/-! ### What an invocation leaves alone -/

/-- The environment an invocation does not change: who answers the memory port, the page size, the hypercall layout and flag. -/
def SameEnvironment (s t : State) : Prop :=
  t.port = s.port ∧ t.ttblMinPageSize = s.ttblMinPageSize ∧ t.hypLayout = s.hypLayout ∧ t.hyp = s.hyp

/-- Every byte of guest memory reads as before. -/
def SameMemory (s t : State) : Prop := ∀ a : Word, t.mem.read8 a = s.mem.read8 a

/-- Byte `b` is one of the `n` bytes that start at `a`, wrapping at the top of the space (R8). -/
def within (a : Word) (n : Nat) (b : Word) : Prop := (b - a).toNat < n

/-- Every byte of guest memory outside the `n` bytes at `a` reads as before. -/
def SameMemoryOutside (a : Word) (n : Nat) (s t : State) : Prop := ∀ b : Word, ¬ within a n b → t.mem.read8 b = s.mem.read8 b

/-- Every physical register but those in the list reads as before. -/
def SameRegsBut (written : List PReg) (s t : State) : Prop := ∀ p : PReg, p ∉ written → t.reg p = s.reg p

/-- The physical registers that the indices of the current mode name (R21, R22). -/
def banked (s : State) (ns : List RegIdx) : List PReg := ns.filterMap (bank s.mode)

/-- The CPSR and the five SPSRs are as before. -/
def SameStatus (s t : State) : Prop := t.cpsr = s.cpsr ∧ t.spsr = s.spsr

/-- Every coprocessor object is as before. -/
def SameCoprocs (s t : State) : Prop := t.coprocs = s.coprocs

/-- The vCPU state is bit for bit the one before (R423, R427), and so is what lies behind the ports. -/
structure Untouched (s t : State) : Prop where
  regs : t.regs = s.regs
  pc : t.pc = s.pc
  cpsr : t.cpsr = s.cpsr
  spsr : t.spsr = s.spsr
  mem : t.mem = s.mem
  coprocs : t.coprocs = s.coprocs
  env : SameEnvironment s t

/-! ### How an invocation ends -/

/-- The invocation ended Ok with the PC at `target` (R28, R421); the vCPU is not halted by it and the environment stays. -/
structure OkAt (target : Word) (s t : State) : Prop where
  pc : t.pc = target
  result : t.result = some .ok
  halted : t.halted = s.halted
  env : SameEnvironment s t

/-- The invocation ended Unpredictable (R423) after the port events `made`: one `Halt` event, `halted` set, nothing else changed. -/
structure Halts (made : List Event) (s t : State) : Prop where
  same : Untouched s t
  halted : t.halted = true
  events : t.events = s.events ++ made ++ [.halt]
  result : ∃ why, t.result = some (.unpredictable why)

/-- The instruction is refused outright: it ends Unpredictable and has made no port event but the `Halt` (R423). -/
def Refused (i : Instr) (s : State) : Prop := ∃ t, exec i s = .next t ∧ Halts [] s t

/-- The invocation ended UndefInjected (R424) after the hook events `made`: one `IrqAssert` event, nothing else changed. -/
structure Injects (made : List Event) (s t : State) : Prop where
  same : Untouched s t
  halted : t.halted = s.halted
  events : t.events = s.events ++ made ++ [.irqAssert Config.irqLineUndef Config.irqArgUndef]
  result : t.result = some .undefInjected

/-- The invocation ended GuestFault with this code (R422) after the port events `made`, and nothing else changed. -/
structure FaultsUntouched (code : Nat) (made : List Event) (s t : State) : Prop where
  same : Untouched s t
  halted : t.halted = s.halted
  events : t.events = s.events ++ made
  result : t.result = some (.guestFault code)

/-- The code of a port call that comes after `k` others of the same invocation. -/
def laterPortCode (k : Nat) (s : State) (a : PortAccess) : Nat := { s with envTick := s.envTick + k }.portCode a

/-- The word a read yields that comes after `k` other port calls of the same invocation. -/
def laterPortData (k : Nat) (s : State) (a : PortAccess) : Word := { s with envTick := s.envTick + k }.portData a

/-- The invocation ended GuestFault with this code (R422) after the port events `made`: no write of the PC or of a status register. -/
structure FaultsAfter (code : Nat) (made : List Event) (s t : State) : Prop where
  pc : t.pc = s.pc
  status : SameStatus s t
  halted : t.halted = s.halted
  env : SameEnvironment s t
  events : t.events = s.events ++ made
  result : t.result = some (.guestFault code)

/-- Word `j` of a block of words. -/
def wordAddr (start : Word) (j : Nat) : Word := start + BitVec.ofNat 32 (4 * j)

/-- The port accepts the reads of words 0 to `k - 1` of a block and refuses word `k` with `code`; read `j` is the invocation's port call
number `call j`. -/
def ReadFails (call : Nat → Nat) (start : Word) (k code : Nat) (s : State) : Prop :=
  code ≠ 0 ∧ (∀ j, j < k → laterPortCode (call j) s (s.readAccess (wordAddr start j) .word false) = 0) ∧
  laterPortCode (call k) s (s.readAccess (wordAddr start k) .word false) = code

/-- The same of the writes of a block's words `values`. -/
def WriteFails (call : Nat → Nat) (start : Word) (values : List Word) (k code : Nat) (s : State) : Prop :=
  code ≠ 0 ∧ k < values.length ∧ ∀ j v, values[j]? = some v →
    (j < k → laterPortCode (call j) s (s.writeAccess (wordAddr start j) .word v false) = 0) ∧
    (j = k → laterPortCode (call j) s (s.writeAccess (wordAddr start j) .word v false) = code)

/-- The first `k` registers of a list hold the words the port gave for them; no other register, no byte and no coprocessor changed (R295). -/
structure LoadedUpTo (m : Mode) (ns : List RegIdx) (start : Word) (k : Nat) (s t : State) : Prop where
  loaded : ∀ j n, j < k → ns[j]? = some n → t.xm m n = laterPortData j s (s.readAccess (wordAddr start j) .word false)
  others : SameRegsBut ((ns.take k).filterMap (bank m)) s t
  mem : SameMemory s t
  coprocs : SameCoprocs s t

/-- The first `k` words of a block are stored; no other byte, no register and no coprocessor changed (R295). -/
structure StoredUpTo (start : Word) (values : List Word) (k : Nat) (s t : State) : Prop where
  stored : ∀ j v, j < k → values[j]? = some v → t.mem.read32 (wordAddr start j) = v
  others : SameMemoryOutside start (4 * k) s t
  regs : SameRegsBut [] s t
  coprocs : SameCoprocs s t

/-- The first `k` words of a transfer stand in the words of a reference coprocessor from `crd` on; nothing else of it changed (R323, R335). -/
structure CopLoadedUpTo (crd : BitVec 4) (k : Nat) (data : Nat → Word) (r r' : RefCop) : Prop where
  loaded : ∀ j, j < k → refCopWord r' (crd.toNat + j) = data j
  others : ∀ j, j < crd.toNat ∨ crd.toNat + k ≤ j → refCopWord r' j = refCopWord r j
  reg : r'.reg = r.reg
  pair : r'.pair = r.pair

/-- The invocation ended Ok with the PC advanced, after the port events `made`; of the registers only those in the list may have changed, and
no SPSR, no byte of memory, no coprocessor object. -/
structure Answered (made : List Event) (written : List PReg) (s t : State) : Prop where
  ok : OkAt (s.pc + 4#32) s t
  regs : SameRegsBut written s t
  spsr : t.spsr = s.spsr
  mem : SameMemory s t
  coprocs : SameCoprocs s t
  events : t.events = s.events ++ made

/-- A call of the guest-memory port (R40, R62 to R65). -/
def isMemoryCall : Event → Bool
  | .read _ _ _ => true
  | .write _ _ _ _ => true
  | .readX _ => true
  | .writeX _ _ => true
  | _ => false

/-- A call of a coprocessor hook (R45). -/
def isHookCall : Event → Bool
  | .hook _ _ => true
  | _ => false

/-- A call of the guest-memory port or of a hook: one tick of the environment. -/
def isPortCall (e : Event) : Bool := isMemoryCall e || isHookCall e

/-- The port access that an event records, in the mode it was made in (R62 to R65). -/
def Event.access (m : Mode) : Event → Option PortAccess
  | .read addr size user => some ⟨addr, size, .read, user, m, 0#32⟩
  | .write addr size value user => some ⟨addr, size, .write, user, m, value⟩
  | .readX addr => some ⟨addr, .word, .readExclusive, false, m, 0#32⟩
  | .writeX addr value => some ⟨addr, .word, .writeExclusive, false, m, value⟩
  | _ => none

/-- The memory call `e`, made after the events `before` of the invocation from `s`, was answered with this code. -/
def AnsweredWith (code : Nat) (before : List Event) (e : Event) (s : State) : Prop :=
  ∃ a, e.access s.mode = some a ∧ laterPortCode (before.countP isPortCall) s a = code

/-- The word reads of a block transfer: `count` of them, ascending (R71). -/
def readEvents (start : Word) (count : Nat) : List Event :=
  (List.range count).map fun k => .read (wordAddr start k) .word false

/-- The word writes of a block transfer, ascending (R71). -/
def writeEvents (start : Word) (values : List Word) : List Event :=
  values.zipIdx.map fun p => .write (wordAddr start p.2) .word p.1 false

/-- The words that STM stores, in mode `m`'s bank: the listed registers, and `pc + 8` last when bit 15 is listed (R297). -/
def blockValues (m : Mode) (regList : BitVec 16) (s : State) : List Word :=
  (listedRegisters regList).map (s.xm m) ++ (if regList.getLsbD 15 then [s.pc + 8#32] else [])

/-- The call of `ldcstc_accept` by LDC and STC (R323). -/
def acceptEvent (n : BitVec 4) (a : TransferArgs) : Event := .hook n (.ldcstcAccept a.d a.crd a.uopt a.imm8)

/-- The call of `ldcstc_done` for word `j` (R323). -/
def doneEvent (n : BitVec 4) (a : TransferArgs) (j : Nat) : Event := .hook n (.ldcstcDone j a.d a.crd a.uopt a.imm8)

/-- The calls of LDC up to and with word `count - 1`, which is `data (count - 1)` (R323). -/
def ldcEvents (n : BitVec 4) (a : TransferArgs) (start : Word) (data : Nat → Word) (count : Nat) : List Event :=
  acceptEvent n a :: (List.range count).flatMap fun j =>
    [doneEvent n a j, .read (wordAddr start j) .word false, .hook n (.ldcstcWrite j a.d a.crd a.uopt a.imm8 (data j))]

/-- The calls of STC up to and with word `count - 1` (R323). -/
def stcEvents (n : BitVec 4) (a : TransferArgs) (start : Word) (data : Nat → Word) (count : Nat) : List Event :=
  acceptEvent n a :: (List.range count).flatMap fun j =>
    [doneEvent n a j, .hook n (.ldcstcRead j a.d a.crd a.uopt a.imm8), .write (wordAddr start j) .word (data j) false]

/-! ### The refused spaces -/

/-- The word lies in a space of R107's list. -/
def inSpace (mask pattern w : Word) : Bool := w &&& mask == pattern

/-- The spaces of R107 that are no row of the opcode table, in its order: multiplies and other exclusives, miscellaneous, register-shifted
register, compare, MOVT, native MSR (immediate) and hints, and the two holes of the SUBS PC, LR row. -/
def unmapped (w : Word) : Bool :=
  (inSpace 0x0E0000F0#32 0x00000090#32 w && !inSpace 0x0FF000F0#32 0x01800090#32 w && !inSpace 0x0FF000F0#32 0x01900090#32 w) ||
  (inSpace 0x0F900000#32 0x01000000#32 w && !(w.getLsbD 7 && w.getLsbD 4)) || inSpace 0x0E000090#32 0x00000010#32 w ||
  (inSpace 0x0D900000#32 0x01100000#32 w && (w.getLsbD 25 || !(w.getLsbD 7 && w.getLsbD 4))) ||
  inSpace 0x0FF00000#32 0x03400000#32 w || inSpace 0x0FB00000#32 0x03200000#32 w || inSpace 0x0FEC0000#32 0x0F280000#32 w ||
  inSpace 0x0FF00010#32 0x0F200010#32 w

/-! ### Instruction families -/

/-- The second operand of data processing (R181). -/
inductive Operand2 where
  /-- Format DPI. -/
  | imm (imm12 : BitVec 12)
  /-- Format DPR. -/
  | reg (imm5 : BitVec 5) (ty : BitVec 2) (rm : RegIdx)
  deriving DecidableEq, Repr

/-- `(op2, sc)`, R181. -/
def Operand2.value (s : State) : Operand2 → Word × Bool
  | .imm imm12 => expandImmC imm12 (flagC s.cpsr)
  | .reg imm5 ty rm => shiftC (s.x rm) (decodeImmShift ty imm5).1 (decodeImmShift ty imm5).2 (flagC s.cpsr)

/-- The 24 data-processing instructions, R184 to R195. -/
def dpInstr (op : AluOp) (cond : Cond) (sf : Bool) (rn rd : RegIdx) : Operand2 → Instr
  | .imm v =>
    match op with
    | .and => .andImmediate cond sf rn rd v
    | .eor => .eorImmediate cond sf rn rd v
    | .sub => .subImmediate cond sf rn rd v
    | .rsb => .rsbImmediate cond sf rn rd v
    | .add => .addImmediate cond sf rn rd v
    | .adc => .adcImmediate cond sf rn rd v
    | .sbc => .sbcImmediate cond sf rn rd v
    | .rsc => .rscImmediate cond sf rn rd v
    | .orr => .orrImmediate cond sf rn rd v
    | .mov => .movImmediate cond sf rn rd v
    | .bic => .bicImmediate cond sf rn rd v
    | .mvn => .mvnImmediate cond sf rn rd v
  | .reg n ty rm =>
    match op with
    | .and => .andRegister cond sf rn rd n ty rm
    | .eor => .eorRegister cond sf rn rd n ty rm
    | .sub => .subRegister cond sf rn rd n ty rm
    | .rsb => .rsbRegister cond sf rn rd n ty rm
    | .add => .addRegister cond sf rn rd n ty rm
    | .adc => .adcRegister cond sf rn rd n ty rm
    | .sbc => .sbcRegister cond sf rn rd n ty rm
    | .rsc => .rscRegister cond sf rn rd n ty rm
    | .orr => .orrRegister cond sf rn rd n ty rm
    | .mov => .movRegister cond sf rn rd n ty rm
    | .bic => .bicRegister cond sf rn rd n ty rm
    | .mvn => .mvnRegister cond sf rn rd n ty rm

/-- The 24 rows of the SUBS PC, LR family, R388 to R399. -/
def subsPcInstr (op : AluOp) (cond : Cond) (rn : RegIdx) : Operand2 → Instr
  | .imm v =>
    match op with
    | .and => .hypAndsPcImmediate cond rn v
    | .eor => .hypEorsPcImmediate cond rn v
    | .sub => .hypSubsPcImmediate cond rn v
    | .rsb => .hypRsbsPcImmediate cond rn v
    | .add => .hypAddsPcImmediate cond rn v
    | .adc => .hypAdcsPcImmediate cond rn v
    | .sbc => .hypSbcsPcImmediate cond rn v
    | .rsc => .hypRscsPcImmediate cond rn v
    | .orr => .hypOrrsPcImmediate cond rn v
    | .mov => .hypMovsPcImmediate cond rn v
    | .bic => .hypBicsPcImmediate cond rn v
    | .mvn => .hypMvnsPcImmediate cond rn v
  | .reg n ty rm =>
    match op with
    | .and => .hypAndsPcRegister cond rn n ty rm
    | .eor => .hypEorsPcRegister cond rn n ty rm
    | .sub => .hypSubsPcRegister cond rn n ty rm
    | .rsb => .hypRsbsPcRegister cond rn n ty rm
    | .add => .hypAddsPcRegister cond rn n ty rm
    | .adc => .hypAdcsPcRegister cond rn n ty rm
    | .sbc => .hypSbcsPcRegister cond rn n ty rm
    | .rsc => .hypRscsPcRegister cond rn n ty rm
    | .orr => .hypOrrsPcRegister cond rn n ty rm
    | .mov => .hypMovsPcRegister cond rn n ty rm
    | .bic => .hypBicsPcRegister cond rn n ty rm
    | .mvn => .hypMvnsPcRegister cond rn n ty rm

/-- The offset of an extra load or store (R220). -/
inductive ExtraOffset where
  /-- Format XLSI: `imm4H:imm4L`. -/
  | imm (imm8 : BitVec 8)
  /-- Format XLSR: `x[Rm]`. -/
  | reg (rm : RegIdx)
  deriving DecidableEq, Repr

/-- The value of the offset, R221. -/
def ExtraOffset.value (s : State) : ExtraOffset → Word
  | .imm v => v.setWidth 32
  | .reg rm => s.x rm

/-- `Rm = 15` is refused in the register form (R223). -/
def ExtraOffset.legal : ExtraOffset → Bool
  | .imm _ => true
  | .reg rm => rm != 15#4

/-- The offset of a load or store of a word or an unsigned byte (R260). -/
inductive WordOffset where
  /-- Format LSI: `imm12`. -/
  | imm (imm12 : BitVec 12)
  /-- Format LSR: `Shift(x[Rm], type, imm5)`. -/
  | reg (imm5 : BitVec 5) (ty : BitVec 2) (rm : RegIdx)
  deriving DecidableEq, Repr

/-- The value of the offset, R261. -/
def WordOffset.value (s : State) : WordOffset → Word
  | .imm v => v.setWidth 32
  | .reg imm5 ty rm => (shiftC (s.x rm) (decodeImmShift ty imm5).1 (decodeImmShift ty imm5).2 (flagC s.cpsr)).1

/-- `Rm = 15` is refused in the register form (R263). -/
def WordOffset.legal : WordOffset → Bool
  | .imm _ => true
  | .reg _ _ rm => rm != 15#4

/-- The single-register loads with their offset. -/
inductive LoadForm where
  | ldr (o : WordOffset)
  | ldrb (o : WordOffset)
  | ldrh (o : ExtraOffset)
  | ldrsb (o : ExtraOffset)
  | ldrsh (o : ExtraOffset)
  deriving DecidableEq, Repr

/-- The load with a base register and a descriptor: LDR, LDRB, LDRH, LDRSB, LDRSH (R225, R228, R229, R265, R267). -/
def LoadForm.instr (cond : Cond) (idx : Indexing) (u : Bool) (rn rt : RegIdx) : LoadForm → Instr
  | .ldr (.imm v) => .ldrImmediate cond idx u rn rt v
  | .ldr (.reg n ty rm) => .ldrRegister cond idx u rn rt n ty rm
  | .ldrb (.imm v) => .ldrbImmediate cond idx u rn rt v
  | .ldrb (.reg n ty rm) => .ldrbRegister cond idx u rn rt n ty rm
  | .ldrh (.imm v) => .ldrhImmediate cond idx u rn rt v
  | .ldrh (.reg rm) => .ldrhRegister cond idx u rn rt rm
  | .ldrsb (.imm v) => .ldrsbImmediate cond idx u rn rt v
  | .ldrsb (.reg rm) => .ldrsbRegister cond idx u rn rt rm
  | .ldrsh (.imm v) => .ldrshImmediate cond idx u rn rt v
  | .ldrsh (.reg rm) => .ldrshRegister cond idx u rn rt rm

/-- The T variant of the load: LDRT, LDRBT, LDRHT, LDRSBT, LDRSHT (R231 to R233, R269, R271). -/
def LoadForm.instrT (cond : Cond) (u : Bool) (rn rt : RegIdx) : LoadForm → Instr
  | .ldr (.imm v) => .ldrtImmediate cond u rn rt v
  | .ldr (.reg n ty rm) => .ldrtRegister cond u rn rt n ty rm
  | .ldrb (.imm v) => .ldrbtImmediate cond u rn rt v
  | .ldrb (.reg n ty rm) => .ldrbtRegister cond u rn rt n ty rm
  | .ldrh (.imm v) => .ldrhtImmediate cond u rn rt v
  | .ldrh (.reg rm) => .ldrhtRegister cond u rn rt rm
  | .ldrsb (.imm v) => .ldrsbtImmediate cond u rn rt v
  | .ldrsb (.reg rm) => .ldrsbtRegister cond u rn rt rm
  | .ldrsh (.imm v) => .ldrshtImmediate cond u rn rt v
  | .ldrsh (.reg rm) => .ldrshtRegister cond u rn rt rm

/-- The bytes the load reads, R68. -/
def LoadForm.size : LoadForm → Size
  | .ldr _ => .word
  | .ldrb _ => .byte
  | .ldrh _ => .half
  | .ldrsb _ => .byte
  | .ldrsh _ => .half

/-- What the load puts in the register for the `v` that the port yields, R68. -/
def LoadForm.extend (v : Word) : LoadForm → Word
  | .ldr _ => v
  | .ldrb _ => (v.setWidth 8).setWidth 32
  | .ldrh _ => (v.setWidth 16).setWidth 32
  | .ldrsb _ => (v.setWidth 8).signExtend 32
  | .ldrsh _ => (v.setWidth 16).signExtend 32

/-- The offset of the load. -/
def LoadForm.offset (s : State) : LoadForm → Word
  | .ldr o => o.value s
  | .ldrb o => o.value s
  | .ldrh o => o.value s
  | .ldrsb o => o.value s
  | .ldrsh o => o.value s

/-- The load's offset register is allowed. -/
def LoadForm.offsetLegal : LoadForm → Bool
  | .ldr o => o.legal
  | .ldrb o => o.legal
  | .ldrh o => o.legal
  | .ldrsb o => o.legal
  | .ldrsh o => o.legal

/-- The five literal loads (R222, R262). -/
inductive LiteralLoad where
  | ldr (imm12 : BitVec 12)
  | ldrb (imm12 : BitVec 12)
  | ldrh (imm8 : BitVec 8)
  | ldrsb (imm8 : BitVec 8)
  | ldrsh (imm8 : BitVec 8)
  deriving DecidableEq, Repr

/-- The literal load as an instruction. -/
def LiteralLoad.instr (cond : Cond) (idx : Indexing) (u : Bool) (rt : RegIdx) : LiteralLoad → Instr
  | .ldr v => .ldrLiteral cond idx u rt v
  | .ldrb v => .ldrbLiteral cond idx u rt v
  | .ldrh v => .ldrhLiteral cond idx u rt v
  | .ldrsb v => .ldrsbLiteral cond idx u rt v
  | .ldrsh v => .ldrshLiteral cond idx u rt v

/-- The immediate form that the literal load shares its width, extension and offset with. -/
def LiteralLoad.form : LiteralLoad → LoadForm
  | .ldr v => .ldr (.imm v)
  | .ldrb v => .ldrb (.imm v)
  | .ldrh v => .ldrh (.imm v)
  | .ldrsb v => .ldrsb (.imm v)
  | .ldrsh v => .ldrsh (.imm v)

/-- The single-register stores with their offset. -/
inductive StoreForm where
  | str (o : WordOffset)
  | strb (o : WordOffset)
  | strh (o : ExtraOffset)
  deriving DecidableEq, Repr

/-- The store with a base register and a descriptor: STR, STRB, STRH (R224, R264, R266). -/
def StoreForm.instr (cond : Cond) (idx : Indexing) (u : Bool) (rn rt : RegIdx) : StoreForm → Instr
  | .str (.imm v) => .strImmediate cond idx u rn rt v
  | .str (.reg n ty rm) => .strRegister cond idx u rn rt n ty rm
  | .strb (.imm v) => .strbImmediate cond idx u rn rt v
  | .strb (.reg n ty rm) => .strbRegister cond idx u rn rt n ty rm
  | .strh (.imm v) => .strhImmediate cond idx u rn rt v
  | .strh (.reg rm) => .strhRegister cond idx u rn rt rm

/-- The T variant of the store: STRT, STRBT, STRHT (R230, R268, R270). -/
def StoreForm.instrT (cond : Cond) (u : Bool) (rn rt : RegIdx) : StoreForm → Instr
  | .str (.imm v) => .strtImmediate cond u rn rt v
  | .str (.reg n ty rm) => .strtRegister cond u rn rt n ty rm
  | .strb (.imm v) => .strbtImmediate cond u rn rt v
  | .strb (.reg n ty rm) => .strbtRegister cond u rn rt n ty rm
  | .strh (.imm v) => .strhtImmediate cond u rn rt v
  | .strh (.reg rm) => .strhtRegister cond u rn rt rm

/-- The bytes the store writes, R68. -/
def StoreForm.size : StoreForm → Size
  | .str _ => .word
  | .strb _ => .byte
  | .strh _ => .half

/-- The offset of the store. -/
def StoreForm.offset (s : State) : StoreForm → Word
  | .str o => o.value s
  | .strb o => o.value s
  | .strh o => o.value s

/-- The store's offset register is allowed. -/
def StoreForm.offsetLegal : StoreForm → Bool
  | .str o => o.legal
  | .strb o => o.legal
  | .strh o => o.legal

/-- The registers of a form with a base register are allowed: rows 1, 3 and 4 of R223, rows 1 to 3 of R263. -/
def baseLegal (idx : Indexing) (rn rt : RegIdx) : Bool :=
  rt != 15#4 && (!writesBack idx || (rn != 15#4 && rn != rt))

/-- The registers of a T variant are allowed (R223, R263). -/
def unprivilegedLegal (rn rt : RegIdx) : Bool := rt != 15#4 && rn != 15#4 && rn != rt

/-- LDRD with a base register, R226. -/
def ldrdInstr (cond : Cond) (idx : Indexing) (u : Bool) (rn rt : RegIdx) : ExtraOffset → Instr
  | .imm v => .ldrdImmediate cond idx u rn rt v
  | .reg rm => .ldrdRegister cond idx u rn rt rm

/-- STRD, R227. -/
def strdInstr (cond : Cond) (idx : Indexing) (u : Bool) (rn rt : RegIdx) : ExtraOffset → Instr
  | .imm v => .strdImmediate cond idx u rn rt v
  | .reg rm => .strdRegister cond idx u rn rt rm

/-- The registers of a doubleword form are allowed: rows 2, 3, 4, 5 and 7 of R223. -/
def doubleLegal (idx : Indexing) (rn rt : RegIdx) : Bool :=
  !rt.getLsbD 0 && rt != 14#4 && (!writesBack idx || (rn != 15#4 && rn != rt && rn != rt + 1#4))

/-- The offset register of LDRD is allowed: rows 8 and 9 of R223. -/
def ldrdOffsetLegal (rt : RegIdx) : ExtraOffset → Bool
  | .imm _ => true
  | .reg rm => rm != 15#4 && rm != rt && rm != rt + 1#4

/-- The four addressing modes of a block transfer, R290, R292. -/
inductive BlockMode where
  | da | ia | db | ib
  deriving DecidableEq, Repr

/-- The address of the word of the lowest register, the table of R292. -/
def BlockMode.first (base length : Word) : BlockMode → Word
  | .da => base - length + 4#32
  | .ia => base
  | .db => base - length
  | .ib => base + 4#32

/-- The write-back value, the table of R292. -/
def BlockMode.writeBack (base length : Word) : BlockMode → Word
  | .da => base - length
  | .ia => base + length
  | .db => base - length
  | .ib => base + length

/-- `P` of the addressing mode, R292. -/
def BlockMode.p : BlockMode → Bool
  | .da => false
  | .ia => false
  | .db => true
  | .ib => true

/-- `U` of the addressing mode, R292. -/
def BlockMode.u : BlockMode → Bool
  | .da => false
  | .ia => true
  | .db => false
  | .ib => true

/-- LDM in an addressing mode, R302 to R305. -/
def BlockMode.ldm (cond : Cond) (w : Bool) (rn : RegIdx) (regList : BitVec 16) : BlockMode → Instr
  | .da => .ldmda cond w rn regList
  | .ia => .ldmia cond w rn regList
  | .db => .ldmdb cond w rn regList
  | .ib => .ldmib cond w rn regList

/-- STM in an addressing mode, R298 to R301. -/
def BlockMode.stm (cond : Cond) (w : Bool) (rn : RegIdx) (regList : BitVec 16) : BlockMode → Instr
  | .da => .stmda cond w rn regList
  | .ia => .stmia cond w rn regList
  | .db => .stmdb cond w rn regList
  | .ib => .stmib cond w rn regList

/-- MSR from either source, R355, R356. -/
inductive MsrSource where
  | imm (imm12 : BitVec 12)
  | reg (rn : RegIdx)
  deriving DecidableEq, Repr

/-- The value MSR writes, R355, R356. -/
def MsrSource.value (s : State) : MsrSource → Word
  | .imm v => (expandImmC v (flagC s.cpsr)).1
  | .reg rn => s.x rn

/-- `Rn = 15` is refused (R356). -/
def MsrSource.legal : MsrSource → Bool
  | .imm _ => true
  | .reg rn => rn != 15#4

/-- MSR as an instruction. -/
def MsrSource.instr (cond : Cond) (r : Bool) (mask : BitVec 4) : MsrSource → Instr
  | .imm v => .hypMsrImmediate cond r mask v
  | .reg rn => .hypMsrRegister cond r mask rn

/-- LDC and STC, whose loop the coprocessor ends (R469). -/
def isTransferLoop : Instr → Bool
  | .stc _ _ _ _ _ _ _ _ _ => true
  | .ldcImmediate _ _ _ _ _ _ _ _ _ => true
  | .ldcLiteral _ _ _ _ _ _ _ _ => true
  | _ => false

/-- The instructions that reach a coprocessor hook (R320). -/
def reachesHook : Instr → Bool
  | .mcrr _ _ _ _ _ _ => true
  | .mrrc _ _ _ _ _ _ => true
  | .mcr _ _ _ _ _ _ _ => true
  | .mrc _ _ _ _ _ _ _ => true
  | .cdp _ _ _ _ _ _ _ => true
  | i => isTransferLoop i

/-- A data-processing instruction with `S = 1` (R182), or MRC with `Rt = 15` (R330): the instructions that write flags as a side effect
(R32). -/
def setsFlags (i : Instr) : Prop :=
  (∃ op cond rn rd o, i = dpInstr op cond true rn rd o) ∨ (∃ cond o1 crn cp o2 crm, i = .mrc cond o1 crn 15#4 cp o2 crm)

/-- The instructions that write the CPSR as data (R30, R32): CPS, MSR to the CPSR and the exception returns. -/
def writesCpsr (i : Instr) : Prop :=
  (∃ cond imod m a f n mode, i = .hypCps cond imod m a f n mode) ∨
  (∃ cond mask src, i = MsrSource.instr cond false mask src) ∨
  (∃ cond p u w rn, i = .hypRfe cond p u w rn) ∨
  (∃ cond p u w rn l, i = .hypLdmExceptionReturn cond p u w rn l) ∨
  (∃ op cond rn o, i = subsPcInstr op cond rn o)

/-- MSR to the SPSR, the only instruction that writes an SPSR (R35). -/
def writesSpsr (i : Instr) : Prop := ∃ cond mask src, i = MsrSource.instr cond true mask src

end Sys2Proof.Machine
end

