-- ==== Sys2Proof/Certificates/Slice0/Obligations.lean ====
section
/-! DEFINITION. The statements for the provers. `s` is the state an invocation starts from and `t` the one it ends in; the terms of the
conclusions (`OkAt`, `Halts`, `Injects`, the frames, the instruction families) are those of Sys2Proof/Safety.lean. -/

open Sys2Proof Sys2Proof.Machine

/-! ### Functional units -/

/-- R130, R131, R134: `bits` and `bit`, `bitcount`, and `align`, which rounds down to a multiple of 4, with their worked examples. -/
def Obligations.BitOpsRules : Prop :=
  (∀ (w : Word) (hi lo : Nat), lo ≤ hi → hi ≤ 31 →
    bits w hi lo = (w >>> lo).toNat % 2 ^ (hi - lo + 1) ∧ bits w hi lo = (w.extractLsb' lo (hi - lo + 1)).toNat) ∧
  (∀ (w : Word) (n : Nat), n ≤ 31 → bit w n = (w.getLsbD n).toNat) ∧
  bits 0xE5B32008#32 19 16 = 3 ∧ bit 0xE5B32008#32 21 = 1 ∧
  (∀ w : Word, bitcount w = ((List.range 32).filter fun k => w.getLsbD k).length) ∧
  bitcount 0x400F#32 = 5 ∧
  (∀ a : Word, (align4 a).toNat = a.toNat - a.toNat % 4 ∧ (align4 a).toNat % 4 = 0) ∧
  align4 0x1006#32 = 0x1004#32 ∧ align4 0x1008#32 = 0x1008#32

/-- R145: the laws of the Shifter, with the law of RRX that holds in place of the source's third one and the counter-example to that one. -/
def Obligations.ShifterLaws : Prop :=
  (∀ (v : Word) (a : Nat), 1 ≤ a → a ≤ 31 →
    (lslC (lsrC v a).1 a).1 = v &&& ~~~(BitVec.ofNat 32 (2 ^ a - 1)) ∧ (rorC (rorC v a).1 (32 - a)).1 = v) ∧
  (∀ (v : Word) (c : Bool),
    v = ((rrxC v c).1 <<< 1) ||| (BitVec.ofBool (rrxC v c).2).setWidth 32 ∧ c = (rrxC v c).1.getLsbD 31) ∧
  (∀ (v : Word) (c : Bool), (fun p : Word × Bool => rrxC p.1 p.2)^[33] (v, c) = (v, c)) ∧
  rrxC 1#32 false = (0#32, true) ∧ rrxC 0#32 false = (0#32, false)

/-- R136 to R141: what each shift yields, as arithmetic on the value, and its carry-out. The carry of the right shifts and the amounts above
32 are the spec's decision D33. -/
def Obligations.ShifterValues : Prop :=
  ∀ (v : Word) (n : Nat) (c : Bool), 1 ≤ n →
    ((shiftC v .lsl n c).1.toNat = v.toNat * 2 ^ n % 2 ^ 32 ∧ (n ≤ 32 → (shiftC v .lsl n c).2 = v.getLsbD (32 - n)) ∧
      (32 < n → (shiftC v .lsl n c).2 = false)) ∧
    ((shiftC v .lsr n c).1.toNat = v.toNat / 2 ^ n ∧ (shiftC v .lsr n c).2 = v.getLsbD (n - 1)) ∧
    ((shiftC v .asr n c).1.toInt = v.toInt / 2 ^ n ∧ (n ≤ 32 → (shiftC v .asr n c).2 = v.getLsbD (n - 1)) ∧
      (32 ≤ n → (shiftC v .asr n c).2 = v.getLsbD 31)) ∧
    ((shiftC v .ror n c).1 = v.rotateRight (n % 32) ∧ (shiftC v .ror n c).2 = (shiftC v .ror n c).1.getLsbD 31) ∧
    (∀ t : ShiftType, t ≠ .rrx → shiftC v t 0 c = (v, c)) ∧
    ((shiftC v .rrx n c).1.toNat = c.toNat * 2 ^ 31 + v.toNat / 2 ∧ (shiftC v .rrx n c).2 = v.getLsbD 0)

/-- R147: when `AddWithCarry` carries and when it overflows, with any carry-in, and the bit-level form of the overflow. -/
def Obligations.AddWithCarryLaw : Prop :=
  ∀ (x y : Word) (cin : Bool),
    ((addWithCarry x y cin).carry = true ↔ 2 ^ 32 ≤ x.toNat + y.toNat + cin.toNat) ∧
    ((addWithCarry x y cin).overflow = true ↔
      x.toInt + y.toInt + (cin.toNat : Int) < -2 ^ 31 ∨ 2 ^ 31 ≤ x.toInt + y.toInt + (cin.toNat : Int)) ∧
    ((addWithCarry x y cin).overflow = true ↔
      x.getLsbD 31 = y.getLsbD 31 ∧ (addWithCarry x y cin).value.getLsbD 31 ≠ x.getLsbD 31)

/-- R148: subtraction on the adder. SUB, RSB, SBC and RSC are the four uses, the last two from general knowledge as the rule says; after a
subtraction the carry is "no borrow"; the worked examples. -/
def Obligations.SubtractionOnTheAdder : Prop :=
  (∀ (x y : Word) (c sc : Bool),
    alu .sub x y c sc = arithResult (addWithCarry x (~~~y) true) ∧ alu .rsb x y c sc = arithResult (addWithCarry (~~~x) y true) ∧
    alu .sbc x y c sc = arithResult (addWithCarry x (~~~y) c) ∧ alu .rsc x y c sc = arithResult (addWithCarry (~~~x) y c) ∧
    (alu .sub x y c sc).value = x - y ∧ (alu .rsb x y c sc).value = y - x ∧
    ((alu .sub x y c sc).carry = true ↔ y.toNat ≤ x.toNat) ∧ ((alu .sub x y c sc).carry = false ↔ x.toNat < y.toNat) ∧
    ((alu .rsb x y c sc).carry = true ↔ x.toNat ≤ y.toNat)) ∧
  addWithCarry 5#32 0xFFFFFFFC#32 true = ⟨2#32, true, false⟩ ∧
  addWithCarry 3#32 0xFFFFFFFA#32 true = ⟨0xFFFFFFFE#32, false, false⟩ ∧
  addWithCarry 0x80000000#32 0xFFFFFFFE#32 true = ⟨0x7FFFFFFF#32, true, true⟩ ∧
  addWithCarry 0#32 0xFFFFFFFF#32 true = ⟨0#32, true, false⟩

/-- R149, R188 to R191: the values of the twelve operations as arithmetic, their carries and overflows; a logical operation passes the
shifter's carry and leaves the overflow open; ADD and ADC are `AddWithCarry` with no carry-in and with the flag. -/
def Obligations.AluValues : Prop :=
  ∀ (a b : Word) (c sc : Bool),
    ((alu .and a b c sc) = ⟨a &&& b, sc, none⟩ ∧ (alu .eor a b c sc) = ⟨a ^^^ b, sc, none⟩ ∧ (alu .orr a b c sc) = ⟨a ||| b, sc, none⟩ ∧
      (alu .mov a b c sc) = ⟨b, sc, none⟩ ∧ (alu .bic a b c sc) = ⟨a &&& ~~~b, sc, none⟩ ∧ (alu .mvn a b c sc) = ⟨~~~b, sc, none⟩) ∧
    (alu .add a b c sc = arithResult (addWithCarry a b false) ∧ alu .adc a b c sc = arithResult (addWithCarry a b c)) ∧
    ((alu .add a b c sc).value = a + b ∧ (alu .adc a b c sc).value = a + b + (BitVec.ofBool c).setWidth 32 ∧
      (alu .sbc a b c sc).value = a - b - (BitVec.ofBool (!c)).setWidth 32 ∧
      (alu .rsc a b c sc).value = b - a - (BitVec.ofBool (!c)).setWidth 32) ∧
    (((alu .sbc a b c sc).carry = true ↔ b.toNat + (!c).toNat ≤ a.toNat) ∧
      ((alu .rsc a b c sc).carry = true ↔ a.toNat + (!c).toNat ≤ b.toNat) ∧
      ((alu .add a b c sc).carry = true ↔ 2 ^ 32 ≤ a.toNat + b.toNat) ∧
      ((alu .adc a b c sc).carry = true ↔ 2 ^ 32 ≤ a.toNat + b.toNat + c.toNat)) ∧
    (((alu .add a b c sc).overflow = some true ↔ a.toInt + b.toInt < -2 ^ 31 ∨ 2 ^ 31 ≤ a.toInt + b.toInt) ∧
      ((alu .adc a b c sc).overflow = some true ↔
        a.toInt + b.toInt + (c.toNat : Int) < -2 ^ 31 ∨ 2 ^ 31 ≤ a.toInt + b.toInt + (c.toNat : Int)) ∧
      ((alu .sub a b c sc).overflow = some true ↔ a.toInt - b.toInt < -2 ^ 31 ∨ 2 ^ 31 ≤ a.toInt - b.toInt) ∧
      ((alu .rsb a b c sc).overflow = some true ↔ b.toInt - a.toInt < -2 ^ 31 ∨ 2 ^ 31 ≤ b.toInt - a.toInt) ∧
      ((alu .sub a b c sc).overflow = some false ↔ -2 ^ 31 ≤ a.toInt - b.toInt ∧ a.toInt - b.toInt < 2 ^ 31))

/-- R150, R151: the sixteen conditions. Which predicate each value picks is, in R150, from general knowledge. -/
def Obligations.ConditionTable : Prop :=
  ∀ n z c v : Bool,
    condEval 0#4 n z c v = z ∧ condEval 1#4 n z c v = !z ∧ condEval 2#4 n z c v = c ∧ condEval 3#4 n z c v = !c ∧
    condEval 4#4 n z c v = n ∧ condEval 5#4 n z c v = !n ∧ condEval 6#4 n z c v = v ∧ condEval 7#4 n z c v = !v ∧
    condEval 8#4 n z c v = (c && !z) ∧ condEval 9#4 n z c v = (!c || z) ∧ condEval 10#4 n z c v = (n == v) ∧
    condEval 11#4 n z c v = (n != v) ∧ condEval 12#4 n z c v = (!z && (n == v)) ∧ condEval 13#4 n z c v = (z || (n != v)) ∧
    condEval 14#4 n z c v = true ∧ condEval 15#4 n z c v = true

/-- R131, R291, R292: the length of a block transfer is 4 to 64 bytes; the addresses of its first and last word and its write-back value are
those of the table of R292 in each of the four modes. -/
def Obligations.BlockAddresses : Prop :=
  ∀ (base : Word) (l : BitVec 16), l ≠ 0#16 →
    4 ≤ blockLength l ∧ blockLength l ≤ 64 ∧
    ∀ a : BlockMode,
      blockStart a.p a.u base (blockLengthWord l) = a.first base (blockLengthWord l) ∧
      blockWriteBack a.u base (blockLengthWord l) = a.writeBack base (blockLengthWord l) ∧
      blockStart a.p a.u base (blockLengthWord l) + (blockLengthWord l - 4#32) =
        (match a with
          | .da => base
          | .ia => base + blockLengthWord l - 4#32
          | .db => base - 4#32
          | .ib => base + blockLengthWord l)

/-- R70, R71: a transfer of several words is announced as one range that stays within a page, or as two contiguous ranges that do not cross
the boundary between them and together are the original one; and the registers of a list are taken in ascending order. -/
def Obligations.RangeEventsSplit : Prop :=
  (∀ (page : Nat) (start : Word) (len : Nat), pageSizeOk page = true → 4 < len → len ≤ 64 →
    (start.toNat % page + len ≤ page → rangeEvents page start len = [.range start len]) ∧
    (page < start.toNat % page + len →
      ∃ k, 0 < k ∧ k < len ∧ rangeEvents page start len = [.range start k, .range (start + BitVec.ofNat 32 k) (len - k)] ∧
        start.toNat % page + k = page ∧ (start + BitVec.ofNat 32 k).toNat % page = 0 ∧ len - k ≤ page)) ∧
  (∀ (page : Nat) (start : Word), rangeEvents page start 4 = [.range start 4]) ∧
  (∀ l : BitVec 16, (listedRegisters l).Pairwise (fun i j => i.toNat < j.toNat) ∧
    ∀ n : RegIdx, n ∈ listedRegisters l ↔ n ≠ 15#4 ∧ l.getLsbD n.toNat = true)

/-! ### State -/

/-- R21 to R23: a write through one mode's column is read through another's exactly when the table gives both the same physical register.
The table is the ARMv7-A banking that R21 takes (D34; log 22). -/
def Obligations.BankedAccess : Prop :=
  (∀ (m m' : Mode) (n n' : RegIdx), n ≠ 15#4 → n' ≠ 15#4 →
    (bank m n = bank m' n' ↔
      n = n' ∧ (n.toNat < 8 ∨ (n.toNat < 13 ∧ (m = .fiq ↔ m' = .fiq)) ∨ m = m' ∨
        ((m = .usr ∨ m = .sys) ∧ (m' = .usr ∨ m' = .sys))))) ∧
  (∀ (s : State) (m m' : Mode) (n n' : RegIdx) (v : Word), n ≠ 15#4 → n' ≠ 15#4 →
    (s.setXm m n v).xm m' n' = if bank m n = bank m' n' then v else s.xm m' n') ∧
  (∀ (s : State) (m : Mode), s.xm m 15#4 = s.pc + 8#32)

/-- R33: `CpsrUpdate` writes exactly the masked bits, in User mode only those of 0xF80F0000 (D22), and yields nothing when the new mode field
would be illegal (D21). -/
def Obligations.CpsrUpdateMasked : Prop :=
  ∀ (s : State) (value mask : Word),
    (∀ t, s.cpsrUpdate value mask = some t →
      t = { s with cpsr := t.cpsr } ∧ legalMode t.cpsr = true ∧
      ∀ k, k < 32 → t.cpsr.getLsbD k =
        if mask.getLsbD k && (decide (s.mode ≠ .usr) || (0xF80F0000#32).getLsbD k) then value.getLsbD k else s.cpsr.getLsbD k) ∧
    (s.cpsrUpdate value mask = none → legalMode (s.cpsr &&& ~~~mask ||| value &&& mask) = false ∨ legalMode s.cpsr = false) ∧
    (s.mode ≠ .usr → legalMode (s.cpsr &&& ~~~mask ||| value &&& mask) = false → s.cpsrUpdate value mask = none) ∧
    (s.mode = .usr → legalMode s.cpsr = true → (s.cpsrUpdate value mask).isSome = true)

/-- R61 to R63, R67, R81: what is written is read back, byte `k` of the value at `addr + k` at any alignment and around the top of the space;
every other byte is as before and the canonical form is kept. The reference memory yields the little-endian bytes at the address. -/
def Obligations.MemoryReadsAndWrites : Prop :=
  (∀ (m : Memory) (a v : Word) (n : Size), m.wf = true →
    (m.writeSize a v n).wf = true ∧
    (m.writeSize a v n).readSize a n = truncateTo n v ∧
    (∀ k, k < sizeBytes n → (m.writeSize a v n).read8 (a + BitVec.ofNat 32 k) = v.extractLsb' (8 * k) 8) ∧
    (∀ b, ¬ within a (sizeBytes n) b → (m.writeSize a v n).read8 b = m.read8 b)) ∧
  (∀ (s : State) (addr : Word) (n : Size) (user : Bool), PlainMemory s →
    s.portCode (s.readAccess addr n user) = 0 ∧
    (s.portData (s.readAccess addr n user)).toNat =
      (List.range (sizeBytes n)).foldr (fun k acc => acc + (s.mem.read8 (addr + BitVec.ofNat 32 k)).toNat * 2 ^ (8 * k)) 0)

/-- R48, R335, R461: the state after reset. The source gives the CPSR and the general registers; the other values are the spec's decision D31
(logs 1 to 5 and 7). A program's start (R466) has the same registers, with the reference coprocessor at the numbers named, its registers 0, and
nothing at the others, and its image in memory: a word placed later lies over one placed earlier, and every byte outside the image reads 0. -/
def Obligations.ResetState : Prop :=
  (∀ p : PReg, State.reset.reg p = 0#32) ∧ State.reset.pc = 0#32 ∧ State.reset.cpsr = 0x00000010#32 ∧
  (∀ m : Mode, State.reset.spsrOf m = if hasSpsr m then some 0x00000010#32 else none) ∧
  State.reset.halted = false ∧ (∀ a : Word, State.reset.mem.read8 a = 0#8) ∧ (∀ n : BitVec 4, State.reset.cop n = none) ∧
  (∀ k, cellsRead 0#32 RefCop.reset.reg k = 0#32) ∧ (∀ k, cellsRead (0#32, 0#32) RefCop.reset.pair k = (0#32, 0#32)) ∧
  (∀ k, refCopWord RefCop.reset k = 0#32) ∧
  (∀ (numbers : List (BitVec 4)) (image : List (Word × Word)),
    harnessStart numbers image = { State.reset with coprocs := (harnessStart numbers image).coprocs, mem := (harnessStart numbers image).mem } ∧
    ∀ n : BitVec 4, (harnessStart numbers image).cop n = if n ∈ numbers then some ⟨Hooks.all, .reference RefCop.reset⟩ else none) ∧
  (∀ (numbers : List (BitVec 4)) (b : Word), (harnessStart numbers []).mem.read8 b = 0#8) ∧
  (∀ (numbers : List (BitVec 4)) (image : List (Word × Word)) (a v : Word),
    (harnessStart numbers (image ++ [(a, v)])).mem.read32 a = v ∧
    ∀ b : Word, ¬ within a 4 b → (harnessStart numbers (image ++ [(a, v)])).mem.read8 b = (harnessStart numbers image).mem.read8 b)

/-- The invariant of the machine holds at reset (R31, R48). The reset values the source does not give are the model's (logs 1 to 5, 7, 15, 27). -/
def Obligations.ResetInv : Prop := Inv State.reset

/-- Every step keeps the invariant: the mode stays one of the seven legal ones (R31), memory and the coprocessors' maps stay canonical, the
vCPU is halted exactly when the last invocation ended Unpredictable (R423). -/
def Obligations.StepKeepsInv : Prop := ∀ s t : State, Inv s → step s = .next t → Inv t

/-! ### Decoding -/

/-- Every instruction that has an encoding is decoded from the word the encoder writes, with every operand at every value (R93; for the
hypercalls layout H0 of R350, decision D18, log 17). -/
def Obligations.DecodeEncode : Prop :=
  ∀ i : Instr, i.wellFormed = true → decode false (encode i) = .ok i

/-- The decoder answers only terms that have an encoding, under every hypercall layout, and the condition of the instruction is bits 31:28 of
the word (R91, R117). With layout H0 (D18, log 17) the word agrees with the instruction's encoding on every bit that its row examines (R106),
and the words that select no instruction are exactly those of the spaces R107 lists. -/
def Obligations.DecodedWellFormed : Prop :=
  (∀ (layout : HypLayout) (hyp : Bool) (w : Word) (i : Instr), decodeIn layout hyp w = .ok i →
    i.wellFormed = true ∧ i.cond = w.extractLsb' 28 4) ∧
  (∀ (hyp : Bool) (w : Word) (i : Instr), decode hyp w = .ok i → w &&& ~~~i.unexamined = encode i &&& ~~~i.unexamined) ∧
  (∀ w : Word, (∃ why, decode false w = .error why) ↔ unmapped w = true)

/-- Words of the spec's examples, one or two of each family, decode to the instruction the rule reads in them (R193, R188, R196, R225, R241,
R265, R300, R307, R329, R326, R355, R381, R397). The last three, of HYP.MSR, HYP.RFE and HYP.MOVS PC, decode so only under layout H0, the spec's
own choice (R350, decision D18, log 17). -/
def Obligations.DecodeWords : Prop :=
  decode false 0xE3A00012#32 = .ok (.movImmediate 14#4 false 0#4 0#4 0x012#12) ∧
  decode false 0xE0801080#32 = .ok (.addRegister 14#4 false 0#4 1#4 1#5 0#2 0#4) ∧
  decode false 0xE30B3EEF#32 = .ok (.movw 14#4 3#4 0xBEEF#16) ∧
  decode false 0xE1F010B2#32 = .ok (.ldrhImmediate 14#4 .preIndexed true 0#4 1#4 2#8) ∧
  decode false 0xE1802F91#32 = .ok (.strex 14#4 0#4 2#4 1#4) ∧
  decode false 0xE5B32008#32 = .ok (.ldrImmediate 14#4 .preIndexed true 3#4 2#4 8#12) ∧
  decode false 0xE92D400F#32 = .ok (.stmdb 14#4 true 13#4 0x400F#16) ∧
  decode false 0xEAFFFFFE#32 = .ok (.b 14#4 0xFFFFFE#24) ∧
  decode false 0xEE010F10#32 = .ok (.mcr 14#4 0#3 1#4 0#4 15#4 0#3 0#4) ∧
  decode false 0xECF02702#32 = .ok (.ldcImmediate 14#4 false true true true 0#4 2#4 7#4 2#8) ∧
  decode false 0xEF0810D3#32 = .ok (.hypMsrImmediate 14#4 false 1#4 0x0D3#12) ∧
  decode false 0xEF11800D#32 = .ok (.hypRfe 14#4 false true true 13#4) ∧
  decode false 0xEF2D000E#32 = .ok (.hypMovsPcRegister 14#4 0#4 0#5 0#2 14#4)

/-- R96, R351: a word of the SVC space is the same instruction with and without the hypercall flag; with the flag every other word is refused
(decision D19). So it is under every hypercall layout (R350, decision D18, log 17), which matters for the words of that space only; a layout
other than H0 gives the form its free value names, when that is a hypercall form (the model's own, log 17). -/
def Obligations.HypercallEntries : Prop :=
  (∀ (layout : HypLayout) (w : Word),
    (w.extractLsb' 24 4 = 15#4 → decodeIn layout true w = decodeIn layout false w) ∧
    (w.extractLsb' 24 4 ≠ 15#4 → decodeIn layout true w = .error .hypFlagOutsideSvc ∧ decodeIn layout false w = decode false w)) ∧
  (∀ (hyp : Bool) (w : Word), decodeIn .h0 hyp w = decode hyp w) ∧
  (∀ (n : Nat) (w : Word), w.extractLsb' 24 4 = 15#4 →
    decodeIn (.build n) false w =
      match Config.hypForm n (w.extractLsb' 28 4) (w.extractLsb' 0 24) with
      | some i => if i.isHypercall = true ∧ i.wellFormed = true ∧ i.cond = w.extractLsb' 28 4 then .ok i else .error .hypNoForm
      | none => .error .hypNoForm)

/-! ### The step -/

/-- R1, R466: when the word at the PC decodes to an instruction, the step is that instruction on the state with an empty event list and no
result. The hypercall layout is that of the state (R6, R350; log 17). That a step is one fetch and one invocation is the model's choice (log 11). -/
def Obligations.StepRunsDecoded : Prop :=
  ∀ (s : State) (i : Instr), s.halted = false → legalMode s.cpsr = true → pageSizeOk s.ttblMinPageSize = true →
    decodeIn s.hypLayout s.hyp (s.mem.read32 s.pc) = .ok i → step s = exec i { s with events := [], result := none }

/-- R107, R44, R463: a word that selects no instruction ends Unpredictable; the preconditions of an invocation are refused by name. The
refusals of the preconditions are the model's own (log 12). -/
def Obligations.StepRefuses : Prop :=
  (∀ (s : State) (why : DecodeReject), s.halted = false → legalMode s.cpsr = true → pageSizeOk s.ttblMinPageSize = true →
    decodeIn s.hypLayout s.hyp (s.mem.read32 s.pc) = .error why → ∃ t, step s = .next t ∧ Halts [] s.begin t) ∧
  (∀ s : State, s.halted = true → step s = .refused .vcpuHalted) ∧
  (∀ s : State, s.halted = false → legalMode s.cpsr = false → step s = .refused .illegalMode) ∧
  (∀ s : State, s.halted = false → legalMode s.cpsr = true → pageSizeOk s.ttblMinPageSize = false → step s = .refused .badPageSize)

/-- R466, R429: the run of the reference harness, the spec's own test device (decision D37; logs 11 and 13). It invokes the word at the PC with
`hyp = 0`, goes on after Ok with one more entry of the trace, and stops at the first other result. From every state of the invariant with the
harness's ports it makes the number of invocations asked for, all Ok, or stops at the one whose result is not Ok, and never stops for another
reason; every start of a program is such a state. -/
def Obligations.ReferenceHarness : Prop :=
  (∀ s : State, runHarness 0 s = ⟨[], s, .maxSteps⟩) ∧
  (∀ (n : Nat) (s t : State) (i : Instr), s.halted = false → legalMode s.cpsr = true → pageSizeOk s.ttblMinPageSize = true →
    decodeIn s.hypLayout false (s.mem.read32 s.pc) = .ok i → exec i { s with hyp := false, events := [], result := none } = .next t →
    (t.result = some .ok →
      runHarness (n + 1) s =
        ⟨(s.mem.read32 s.pc, some .ok) :: (runHarness n t).trace, (runHarness n t).state, (runHarness n t).stop⟩) ∧
    (t.result ≠ some .ok → runHarness (n + 1) s = ⟨[(s.mem.read32 s.pc, t.result)], t, .notOk⟩)) ∧
  (∀ (n : Nat) (s : State) (why : DecodeReject), s.halted = false → legalMode s.cpsr = true → pageSizeOk s.ttblMinPageSize = true →
    decodeIn s.hypLayout false (s.mem.read32 s.pc) = .error why →
    ∃ t, Halts [] { s.begin with hyp := false } t ∧ runHarness (n + 1) s = ⟨[(s.mem.read32 s.pc, t.result)], t, .notOk⟩) ∧
  (∀ (n : Nat) (s : State), Inv s → HarnessPorts s → s.halted = false →
    Inv (runHarness n s).state ∧ HarnessPorts (runHarness n s).state ∧
    (((runHarness n s).stop = .maxSteps ∧ (runHarness n s).trace.length = n ∧ (∀ e ∈ (runHarness n s).trace, e.2 = some .ok)) ∨
      ((runHarness n s).stop = .notOk ∧ (runHarness n s).trace.length ≤ n ∧
        ∃ (before : List (Word × Option ResultKind)) (w : Word) (k : ResultKind),
          (runHarness n s).trace = before ++ [(w, some k)] ∧ (∀ e ∈ before, e.2 = some .ok) ∧ k ≠ .ok ∧
          (runHarness n s).state.result = some k))) ∧
  (∀ (numbers : List (BitVec 4)) (image : List (Word × Word)),
    Inv (harnessStart numbers image) ∧ HarnessPorts (harnessStart numbers image) ∧ (harnessStart numbers image).halted = false)

/-- R272, R307, R308: the media space, B and BL are refused whatever the condition, and nothing but the halt happens. -/
def Obligations.BranchAndMediaWordsRefused : Prop :=
  ∀ s : State, s.halted = false → legalMode s.cpsr = true → pageSizeOk s.ttblMinPageSize = true → s.hyp = false →
    ((s.mem.read32 s.pc).extractLsb' 24 4 = 0xA#4 ∨ (s.mem.read32 s.pc).extractLsb' 24 4 = 0xB#4 ∨
      ((s.mem.read32 s.pc).extractLsb' 25 3 = 3#3 ∧ (s.mem.read32 s.pc).getLsbD 4 = true)) →
    ∃ t, step s = .next t ∧ Halts [] s.begin t

/-- R306 to R308, R272, R321, R333, R359, R223: the eight instructions of the table that are always refused. -/
def Obligations.RefusedRows : Prop :=
  ∀ s : State,
    (∀ cond hi lo, Refused (.mediaSpace cond hi lo) s) ∧ (∀ cond p u w l rn regs, Refused (.blockNativeS cond p u w l rn regs) s) ∧
    (∀ cond v, Refused (.b cond v) s) ∧ (∀ cond v, Refused (.bl cond v) s) ∧
    (∀ cond op mid odd low, Refused (.vfpSpace cond op mid odd low) s) ∧
    (∀ cond l rn crd n v, Refused (.cpSpace1100000x cond l rn crd n v) s) ∧ (∀ cond low, Refused (.hypSubid7 cond low) s) ∧
    (∀ cond store u i rn rt v, Refused (.doublewordP0W1 cond store u i rn rt v) s)

/-! ### Every instruction -/

/-- R103, R421: "If `CondEval(cond, cpsr) = false`, the only state change is PC += 4". An instruction whose condition fails advances the PC and
does nothing else, unless it is refused before the condition is looked at (R426): then it is refused whatever the flags are. MSR and RFE, which
can also be refused after the condition, for the mode they would write, are then not refused for it. -/
def Obligations.ConditionFalse : Prop :=
  (∀ (i : Instr) (s : State), condPassed i.cond s.cpsr = false →
    exec i s = .next { s with pc := s.pc + 4#32, result := some .ok } ∨
    ∀ psr : Word, psr.extractLsb' 0 28 = s.cpsr.extractLsb' 0 28 → Refused i { s with cpsr := psr }) ∧
  (∀ (cond : Cond) (r : Bool) (mask : BitVec 4) (src : MsrSource) (s : State), condPassed cond s.cpsr = false → src.legal = true →
    (r = true → hasSpsr s.mode = true) →
    exec (src.instr cond r mask) s = .next { s with pc := s.pc + 4#32, result := some .ok }) ∧
  (∀ (cond : Cond) (p u w : Bool) (rn : RegIdx) (s : State), condPassed cond s.cpsr = false → s.mode ≠ .usr → rn ≠ 15#4 →
    exec (.hypRfe cond p u w rn) s = .next { s with pc := s.pc + 4#32, result := some .ok })

/-- R420, R469: every invocation ends with a result, except that LDC and STC on a coprocessor the spec says nothing of may not end. -/
def Obligations.InvocationEnds : Prop :=
  ∀ (i : Instr) (s : State),
    (isTransferLoop i = false ∨ ∀ (n : BitVec 4) (o : CopObject), s.cop n = some o → ∃ r, o.unit = .reference r) →
    ∃ t, exec i s = .next t ∧ t.result.isSome = true

/-- R423, R427: after Unpredictable the vCPU state is bit for bit the one before, one `Halt` is the last event, and only RFE has made events
before it, its two reads. That nothing is written before the halt is decision D29. -/
def Obligations.RefusalKeepsState : Prop :=
  ∀ (i : Instr) (s t : State) (why : Reason), exec i s = .next t → t.result = some (.unpredictable why) →
    Halts [] s t ∨
    ∃ cond p u w rn addr, i = .hypRfe cond p u w rn ∧ Halts [.read addr .word false, .read (addr + 4#32) .word false] s t

/-- R422, R66: a GuestFault carries a non-zero code, leaves the PC and the status registers, and the last event is the failing access, which the
port answered with that code, having accepted every access before it. That the effects of those accesses stay is decision D14; which they are
is said with the results of each instruction (TransferFaults, and the results of the block, coprocessor and return transfers). -/
def Obligations.GuestFaultStops : Prop :=
  ∀ (i : Instr) (s t : State) (code : Nat), exec i s = .next t → t.result = some (.guestFault code) →
    code ≠ 0 ∧ t.pc = s.pc ∧ SameStatus s t ∧ t.halted = s.halted ∧ SameEnvironment s t ∧
    ∃ (made : List Event) (e : Event), t.events = s.events ++ made ++ [e] ∧ isMemoryCall e = true ∧ AnsweredWith code made e s ∧
      ∀ (before : List Event) (e' : Event) (after : List Event), made = before ++ e' :: after → isMemoryCall e' = true →
        AnsweredWith 0 before e' s

/-- R424: UndefInjected comes from a coprocessor instruction, after its hook calls only, with one `IrqAssert`; nothing else changes. -/
def Obligations.UndefInjectedKeepsState : Prop :=
  ∀ (i : Instr) (s t : State), exec i s = .next t → t.result = some .undefInjected →
    reachesHook i = true ∧ ∃ made : List Event, (∀ e ∈ made, isHookCall e = true) ∧ Injects made s t

/-- R434, R33: User mode is left by no instruction; in it no SPSR, no other mode's register and no CPSR bit outside 31:27 and 19:16 changes.
The mask of writable bits is the spec's decision D22. -/
def Obligations.UserModeConfined : Prop :=
  ∀ (i : Instr) (s t : State), legalMode s.cpsr = true → s.mode = .usr → exec i s = .next t →
    t.mode = .usr ∧ t.spsr = s.spsr ∧ t.cpsr &&& ~~~0xF80F0000#32 = s.cpsr &&& ~~~0xF80F0000#32 ∧
    ∀ p : PReg, (∀ n : RegIdx, userBank n ≠ some p) → t.reg p = s.reg p

/-- R32, R35: an SPSR is written by MSR only; the flags as a side effect by the flag-setting instructions only, which leave bits 27:0; the CPSR
as data by CPS, MSR and the exception returns only. -/
def Obligations.StatusWriters : Prop :=
  ∀ (i : Instr) (s t : State), exec i s = .next t →
    (¬ writesSpsr i → t.spsr = s.spsr) ∧
    (¬ writesCpsr i → t.cpsr.extractLsb' 0 28 = s.cpsr.extractLsb' 0 28) ∧
    (¬ writesCpsr i → ¬ setsFlags i → t.cpsr = s.cpsr)

/-! ### Data processing -/

/-- R181 to R196: the twelve operations in both forms, and MOVW. The destination gets the result; with `S = 1` the four flags get the result's
sign and zero, the carry and, for an arithmetic operation, the overflow (D4); nothing else changes. MOVW writes the zero-extended immediate. -/
def Obligations.DataProcessingResult : Prop :=
  (∀ (op : AluOp) (cond : Cond) (sf : Bool) (rn rd : RegIdx) (o : Operand2) (s : State) (r : AluResult),
      rd ≠ 15#4 → condPassed cond s.cpsr = true → r = alu op (s.x rn) (o.value s).1 (flagC s.cpsr) (o.value s).2 →
      ∃ t, exec (dpInstr op cond sf rn rd o) s = .next t ∧ OkAt (s.pc + 4#32) s t ∧ t.x rd = r.value ∧
        SameRegsBut (banked s [rd]) s t ∧ t.spsr = s.spsr ∧ SameMemory s t ∧ SameCoprocs s t ∧ t.events = s.events ∧
        (sf = false → t.cpsr = s.cpsr) ∧
        (sf = true → flagN t.cpsr = r.value.getLsbD 31 ∧ flagZ t.cpsr = decide (r.value = 0#32) ∧ flagC t.cpsr = r.carry ∧
          flagV t.cpsr = r.overflow.getD (flagV s.cpsr) ∧ t.cpsr.extractLsb' 0 28 = s.cpsr.extractLsb' 0 28)) ∧
  (∀ (cond : Cond) (rd : RegIdx) (v : BitVec 16) (s : State), rd ≠ 15#4 → condPassed cond s.cpsr = true →
      ∃ t, exec (.movw cond rd v) s = .next t ∧ OkAt (s.pc + 4#32) s t ∧ (t.x rd).toNat = v.toNat ∧
        SameRegsBut (banked s [rd]) s t ∧ SameStatus s t ∧ SameMemory s t ∧ SameCoprocs s t ∧ t.events = s.events)

/-! ### Single-register transfers -/

/-- R221, R225, R228, R229, R261, R265, R267, R68: the loads with a base register. The address is the offset address, or the base when
post-indexed; the register gets the extended value the port yields; with write-back the base gets the offset address; nothing else changes. -/
def Obligations.LoadResult : Prop :=
  ∀ (f : LoadForm) (cond : Cond) (idx : Indexing) (u : Bool) (rn rt : RegIdx) (s : State) (addr : Word),
    (f.instr cond idx u rn rt).wellFormed = true → baseLegal idx rn rt = true → f.offsetLegal = true → condPassed cond s.cpsr = true →
    addr = transferAddress idx u (s.x rn) (f.offset s) → s.portCode (s.readAccess addr f.size false) = 0 →
    ∃ t, exec (f.instr cond idx u rn rt) s = .next t ∧ OkAt (s.pc + 4#32) s t ∧
      t.x rt = f.extend (s.portData (s.readAccess addr f.size false)) ∧
      (writesBack idx = true → t.x rn = offsetAddress u (s.x rn) (f.offset s)) ∧
      SameRegsBut (banked s (if writesBack idx then [rt, rn] else [rt])) s t ∧ SameStatus s t ∧ SameMemory s t ∧ SameCoprocs s t ∧
      t.events = s.events ++ [.read addr f.size false]

/-- R222, R262: the literal loads. The base is `align(pc + 8, 4)` (D2). -/
def Obligations.LoadLiteralResult : Prop :=
  ∀ (f : LiteralLoad) (cond : Cond) (u : Bool) (rt : RegIdx) (s : State) (addr : Word),
    rt ≠ 15#4 → condPassed cond s.cpsr = true →
    addr = offsetAddress u ((s.pc + 8#32) &&& ~~~3#32) (f.form.offset s) → s.portCode (s.readAccess addr f.form.size false) = 0 →
    ∃ t, exec (f.instr cond .offset u rt) s = .next t ∧ OkAt (s.pc + 4#32) s t ∧
      t.x rt = f.form.extend (s.portData (s.readAccess addr f.form.size false)) ∧ SameRegsBut (banked s [rt]) s t ∧ SameStatus s t ∧
      SameMemory s t ∧ SameCoprocs s t ∧ t.events = s.events ++ [.read addr f.form.size false]

/-- R231 to R233, R269, R271, R64: the T loads. The access is at the base, with user privilege whatever the mode, and the base always gets
the offset address. -/
def Obligations.LoadUnprivilegedResult : Prop :=
  ∀ (f : LoadForm) (cond : Cond) (u : Bool) (rn rt : RegIdx) (s : State),
    unprivilegedLegal rn rt = true → f.offsetLegal = true → condPassed cond s.cpsr = true →
    s.portCode (s.readAccess (s.x rn) f.size true) = 0 →
    ∃ t, exec (f.instrT cond u rn rt) s = .next t ∧ OkAt (s.pc + 4#32) s t ∧
      t.x rt = f.extend (s.portData (s.readAccess (s.x rn) f.size true)) ∧ t.x rn = offsetAddress u (s.x rn) (f.offset s) ∧
      SameRegsBut (banked s [rt, rn]) s t ∧ SameStatus s t ∧ SameMemory s t ∧ SameCoprocs s t ∧
      t.events = s.events ++ [.read (s.x rn) f.size true]

/-- R224, R264, R266, R63: the stores with a base register. The low bytes of the register go to the address; with write-back the base gets
the offset address; every other byte and register is as before. That `State.mem` records what an external port accepts
is log 6. -/
def Obligations.StoreResult : Prop :=
  ∀ (f : StoreForm) (cond : Cond) (idx : Indexing) (u : Bool) (rn rt : RegIdx) (s : State) (addr : Word), s.mem.wf = true →
    baseLegal idx rn rt = true → f.offsetLegal = true → condPassed cond s.cpsr = true →
    addr = transferAddress idx u (s.x rn) (f.offset s) → s.portCode (s.writeAccess addr f.size (s.x rt) false) = 0 →
    ∃ t, exec (f.instr cond idx u rn rt) s = .next t ∧ OkAt (s.pc + 4#32) s t ∧
      t.mem.readSize addr f.size = truncateTo f.size (s.x rt) ∧ SameMemoryOutside addr (sizeBytes f.size) s t ∧
      (writesBack idx = true → t.x rn = offsetAddress u (s.x rn) (f.offset s)) ∧
      SameRegsBut (banked s (if writesBack idx then [rn] else [])) s t ∧ SameStatus s t ∧ SameCoprocs s t ∧
      t.events = s.events ++ [.write addr f.size (truncateTo f.size (s.x rt)) false]

/-- R230, R268, R270, R64: the T stores. That `State.mem` records what an external port accepts is log 6. -/
def Obligations.StoreUnprivilegedResult : Prop :=
  ∀ (f : StoreForm) (cond : Cond) (u : Bool) (rn rt : RegIdx) (s : State), s.mem.wf = true →
    unprivilegedLegal rn rt = true → f.offsetLegal = true → condPassed cond s.cpsr = true →
    s.portCode (s.writeAccess (s.x rn) f.size (s.x rt) true) = 0 →
    ∃ t, exec (f.instrT cond u rn rt) s = .next t ∧ OkAt (s.pc + 4#32) s t ∧
      t.mem.readSize (s.x rn) f.size = truncateTo f.size (s.x rt) ∧ SameMemoryOutside (s.x rn) (sizeBytes f.size) s t ∧
      t.x rn = offsetAddress u (s.x rn) (f.offset s) ∧ SameRegsBut (banked s [rn]) s t ∧ SameStatus s t ∧ SameCoprocs s t ∧
      t.events = s.events ++ [.write (s.x rn) f.size (truncateTo f.size (s.x rt)) true]

/-- R226, R227: LDRD with a base register and from a literal, both words read before either register is written; STRD stores `x[Rt]` at the
address and `x[Rt + 1]` at the next word. -/
def Obligations.DoublewordResults : Prop :=
  (∀ (o : ExtraOffset) (cond : Cond) (idx : Indexing) (u : Bool) (rn rt : RegIdx) (s : State) (addr : Word), PlainMemory s →
    (ldrdInstr cond idx u rn rt o).wellFormed = true → doubleLegal idx rn rt = true → ldrdOffsetLegal rt o = true →
    condPassed cond s.cpsr = true → addr = transferAddress idx u (s.x rn) (o.value s) →
    ∃ t, exec (ldrdInstr cond idx u rn rt o) s = .next t ∧ OkAt (s.pc + 4#32) s t ∧
      t.x rt = s.mem.read32 addr ∧ t.x (rt + 1#4) = s.mem.read32 (addr + 4#32) ∧
      (writesBack idx = true → t.x rn = offsetAddress u (s.x rn) (o.value s)) ∧
      SameRegsBut (banked s (if writesBack idx then [rt, rt + 1#4, rn] else [rt, rt + 1#4])) s t ∧ SameStatus s t ∧ SameMemory s t ∧
      SameCoprocs s t ∧ t.events = s.events ++ [.read addr .word false, .read (addr + 4#32) .word false]) ∧
  (∀ (cond : Cond) (u : Bool) (rt : RegIdx) (v : BitVec 8) (s : State) (addr : Word), PlainMemory s →
    rt.getLsbD 0 = false → rt ≠ 14#4 → condPassed cond s.cpsr = true →
    addr = offsetAddress u ((s.pc + 8#32) &&& ~~~3#32) (v.setWidth 32) →
    ∃ t, exec (.ldrdLiteral cond .offset u rt v) s = .next t ∧ OkAt (s.pc + 4#32) s t ∧
      t.x rt = s.mem.read32 addr ∧ t.x (rt + 1#4) = s.mem.read32 (addr + 4#32) ∧ SameRegsBut (banked s [rt, rt + 1#4]) s t ∧
      SameStatus s t ∧ SameMemory s t ∧ SameCoprocs s t ∧
      t.events = s.events ++ [.read addr .word false, .read (addr + 4#32) .word false]) ∧
  (∀ (o : ExtraOffset) (cond : Cond) (idx : Indexing) (u : Bool) (rn rt : RegIdx) (s : State) (addr : Word), PlainMemory s →
      s.mem.wf = true → doubleLegal idx rn rt = true → o.legal = true → condPassed cond s.cpsr = true →
      addr = transferAddress idx u (s.x rn) (o.value s) →
      ∃ t, exec (strdInstr cond idx u rn rt o) s = .next t ∧ OkAt (s.pc + 4#32) s t ∧
        t.mem.read32 addr = s.x rt ∧ t.mem.read32 (addr + 4#32) = s.x (rt + 1#4) ∧ SameMemoryOutside addr 8 s t ∧
        (writesBack idx = true → t.x rn = offsetAddress u (s.x rn) (o.value s)) ∧
        SameRegsBut (banked s (if writesBack idx then [rn] else [])) s t ∧ SameStatus s t ∧ SameCoprocs s t ∧
        t.events = s.events ++ [.write addr .word (s.x rt) false, .write (addr + 4#32) .word (s.x (rt + 1#4)) false])

/-- R240, R241, R65: LDREX loads through the exclusive call; STREX stores and writes 0 when the port answers done, stores nothing and writes 1
(D15) when it answers not exclusive. That `State.mem` records what an external port accepts is log 6. -/
def Obligations.ExclusiveResults : Prop :=
  (∀ (cond : Cond) (rn rt : RegIdx) (s : State), rt ≠ 15#4 → rn ≠ 15#4 → condPassed cond s.cpsr = true →
    s.portCode (s.readExclusiveAccess (s.x rn)) = 0 →
    ∃ t, exec (.ldrex cond rn rt) s = .next t ∧ OkAt (s.pc + 4#32) s t ∧ t.x rt = s.portData (s.readExclusiveAccess (s.x rn)) ∧
      SameRegsBut (banked s [rt]) s t ∧ SameStatus s t ∧ SameMemory s t ∧ SameCoprocs s t ∧
      t.events = s.events ++ [.readX (s.x rn)]) ∧
  (∀ (cond : Cond) (rn rd rt : RegIdx) (s : State), s.mem.wf = true → rd ≠ 15#4 → rt ≠ 15#4 → rn ≠ 15#4 → rd ≠ rn → rd ≠ rt →
    condPassed cond s.cpsr = true → s.portCode (s.writeExclusiveAccess (s.x rn) (s.x rt)) = 0 →
    ∃ t, exec (.strex cond rn rd rt) s = .next t ∧ OkAt (s.pc + 4#32) s t ∧
      (s.portExclusiveDone (s.writeExclusiveAccess (s.x rn) (s.x rt)) = true →
        t.x rd = 0#32 ∧ t.mem.read32 (s.x rn) = s.x rt ∧ SameMemoryOutside (s.x rn) 4 s t) ∧
      (s.portExclusiveDone (s.writeExclusiveAccess (s.x rn) (s.x rt)) = false → t.x rd = 1#32 ∧ SameMemory s t) ∧
      SameRegsBut (banked s [rd]) s t ∧ SameStatus s t ∧ SameCoprocs s t ∧ t.events = s.events ++ [.writeX (s.x rn) (s.x rt)])

/-- R66, R221, R226, R240, R422: a load or store of one register (with a base register, literal, T variant), an exclusive or a doubleword
transfer whose access the port refuses ends GuestFault with the port's code. The call is all that has happened: no register, no byte, no PC
changes, also when LDRD's second read is refused. When STRD's second write is refused the first word stays written (that effects before the
failing access stay and the PC and the write-back do not happen is decision D14; that `State.mem` holds what an external port accepted is
log 6). -/
def Obligations.TransferFaults : Prop :=
  ∀ (cond : Cond) (idx : Indexing) (u : Bool) (rn rt rd : RegIdx) (s : State) (addr : Word) (code : Nat),
    condPassed cond s.cpsr = true → code ≠ 0 →
    (∀ f : LoadForm, baseLegal idx rn rt = true → f.offsetLegal = true → addr = transferAddress idx u (s.x rn) (f.offset s) →
      s.portCode (s.readAccess addr f.size false) = code →
      ∃ t, exec (f.instr cond idx u rn rt) s = .next t ∧ FaultsUntouched code [.read addr f.size false] s t) ∧
    (∀ f : LoadForm, unprivilegedLegal rn rt = true → f.offsetLegal = true → addr = s.x rn →
      s.portCode (s.readAccess addr f.size true) = code →
      ∃ t, exec (f.instrT cond u rn rt) s = .next t ∧ FaultsUntouched code [.read addr f.size true] s t) ∧
    (∀ f : LiteralLoad, rt ≠ 15#4 → addr = offsetAddress u ((s.pc + 8#32) &&& ~~~3#32) (f.form.offset s) →
      s.portCode (s.readAccess addr f.form.size false) = code →
      ∃ t, exec (f.instr cond .offset u rt) s = .next t ∧ FaultsUntouched code [.read addr f.form.size false] s t) ∧
    (∀ f : StoreForm, baseLegal idx rn rt = true → f.offsetLegal = true → addr = transferAddress idx u (s.x rn) (f.offset s) →
      s.portCode (s.writeAccess addr f.size (s.x rt) false) = code →
      ∃ t, exec (f.instr cond idx u rn rt) s = .next t ∧
        FaultsUntouched code [.write addr f.size (truncateTo f.size (s.x rt)) false] s t) ∧
    (∀ f : StoreForm, unprivilegedLegal rn rt = true → f.offsetLegal = true → addr = s.x rn →
      s.portCode (s.writeAccess addr f.size (s.x rt) true) = code →
      ∃ t, exec (f.instrT cond u rn rt) s = .next t ∧
        FaultsUntouched code [.write addr f.size (truncateTo f.size (s.x rt)) true] s t) ∧
    (rt ≠ 15#4 → rn ≠ 15#4 → addr = s.x rn → s.portCode (s.readExclusiveAccess addr) = code →
      ∃ t, exec (.ldrex cond rn rt) s = .next t ∧ FaultsUntouched code [.readX addr] s t) ∧
    (rd ≠ 15#4 → rt ≠ 15#4 → rn ≠ 15#4 → rd ≠ rn → rd ≠ rt → addr = s.x rn → s.portCode (s.writeExclusiveAccess addr (s.x rt)) = code →
      ∃ t, exec (.strex cond rn rd rt) s = .next t ∧ FaultsUntouched code [.writeX addr (s.x rt)] s t) ∧
    (∀ o : ExtraOffset, doubleLegal idx rn rt = true → ldrdOffsetLegal rt o = true → addr = transferAddress idx u (s.x rn) (o.value s) →
      (s.portCode (s.readAccess addr .word false) = code →
        ∃ t, exec (ldrdInstr cond idx u rn rt o) s = .next t ∧ FaultsUntouched code [.read addr .word false] s t) ∧
      (s.portCode (s.readAccess addr .word false) = 0 → laterPortCode 1 s (s.readAccess (addr + 4#32) .word false) = code →
        ∃ t, exec (ldrdInstr cond idx u rn rt o) s = .next t ∧
          FaultsUntouched code [.read addr .word false, .read (addr + 4#32) .word false] s t)) ∧
    (∀ v : BitVec 8, rt.getLsbD 0 = false → rt ≠ 14#4 → addr = offsetAddress u ((s.pc + 8#32) &&& ~~~3#32) (v.setWidth 32) →
      (s.portCode (s.readAccess addr .word false) = code →
        ∃ t, exec (.ldrdLiteral cond .offset u rt v) s = .next t ∧ FaultsUntouched code [.read addr .word false] s t) ∧
      (s.portCode (s.readAccess addr .word false) = 0 → laterPortCode 1 s (s.readAccess (addr + 4#32) .word false) = code →
        ∃ t, exec (.ldrdLiteral cond .offset u rt v) s = .next t ∧
          FaultsUntouched code [.read addr .word false, .read (addr + 4#32) .word false] s t)) ∧
    (∀ o : ExtraOffset, doubleLegal idx rn rt = true → o.legal = true → addr = transferAddress idx u (s.x rn) (o.value s) →
      (s.portCode (s.writeAccess addr .word (s.x rt) false) = code →
        ∃ t, exec (strdInstr cond idx u rn rt o) s = .next t ∧ FaultsUntouched code [.write addr .word (s.x rt) false] s t) ∧
      (s.mem.wf = true → s.portCode (s.writeAccess addr .word (s.x rt) false) = 0 →
        laterPortCode 1 s (s.writeAccess (addr + 4#32) .word (s.x (rt + 1#4)) false) = code →
        ∃ t, exec (strdInstr cond idx u rn rt o) s = .next t ∧ t.result = some (.guestFault code) ∧ t.mem.read32 addr = s.x rt ∧
          SameMemoryOutside addr 4 s t ∧ SameRegsBut [] s t ∧ t.pc = s.pc ∧ SameStatus s t ∧ SameCoprocs s t ∧ SameEnvironment s t ∧
          t.halted = s.halted ∧
          t.events = s.events ++ [.write addr .word (s.x rt) false, .write (addr + 4#32) .word (s.x (rt + 1#4)) false]))

/-- R223, R263, R240, R241: the register combinations that the single-register, doubleword and exclusive transfers refuse, whatever the
condition. Those the source does not list are the spec's decisions D9 to D11. -/
def Obligations.TransferRefusals : Prop :=
  ∀ (cond : Cond) (idx : Indexing) (u : Bool) (rn rt rd : RegIdx) (s : State),
    (∀ f : LoadForm, (baseLegal idx rn rt && f.offsetLegal) = false → Refused (f.instr cond idx u rn rt) s) ∧
    (∀ f : LoadForm, (unprivilegedLegal rn rt && f.offsetLegal) = false → Refused (f.instrT cond u rn rt) s) ∧
    (∀ f : LiteralLoad, rt = 15#4 ∨ writesBack idx = true → Refused (f.instr cond idx u rt) s) ∧
    (∀ f : StoreForm, (baseLegal idx rn rt && f.offsetLegal) = false → Refused (f.instr cond idx u rn rt) s) ∧
    (∀ f : StoreForm, (unprivilegedLegal rn rt && f.offsetLegal) = false → Refused (f.instrT cond u rn rt) s) ∧
    (∀ o : ExtraOffset, (doubleLegal idx rn rt && ldrdOffsetLegal rt o) = false → Refused (ldrdInstr cond idx u rn rt o) s) ∧
    (∀ o : ExtraOffset, (doubleLegal idx rn rt && o.legal) = false → Refused (strdInstr cond idx u rn rt o) s) ∧
    (∀ v : BitVec 8, rt.getLsbD 0 = true ∨ rt = 14#4 ∨ writesBack idx = true → Refused (.ldrdLiteral cond idx u rt v) s) ∧
    (rt = 15#4 ∨ rn = 15#4 → Refused (.ldrex cond rn rt) s) ∧
    (rd = 15#4 ∨ rt = 15#4 ∨ rn = 15#4 ∨ rd = rn ∨ rd = rt → Refused (.strex cond rn rd rt) s)

/-! ### Block transfers -/

/-- R291, R292, R296, R302 to R305: LDM in the four modes. The `k`-th listed register gets the word at `4k` from the first address; with bit 15
the last word becomes the PC, verbatim (D16), else the PC advances; with write-back the base gets the mode's value. When the port refuses word
`k` the registers of the earlier words are loaded and nothing else has happened (R295, D14). -/
def Obligations.LoadMultipleResult : Prop :=
  (∀ (a : BlockMode) (cond : Cond) (w : Bool) (rn : RegIdx) (l : BitVec 16) (s : State) (start : Word), PlainMemory s →
    rn ≠ 15#4 → l ≠ 0#16 → (w && l.getLsbD rn.toNat) = false → condPassed cond s.cpsr = true →
    start = a.first (s.x rn) (BitVec.ofNat 32 (4 * bitcount l)) →
    ∃ t, exec (a.ldm cond w rn l) s = .next t ∧
      OkAt (if l.getLsbD 15 then s.mem.read32 (start + BitVec.ofNat 32 (4 * (listedRegisters l).length)) else s.pc + 4#32) s t ∧
      (∀ k n, (listedRegisters l)[k]? = some n → t.x n = s.mem.read32 (start + BitVec.ofNat 32 (4 * k))) ∧
      (w = true → t.x rn = a.writeBack (s.x rn) (BitVec.ofNat 32 (4 * bitcount l))) ∧
      SameRegsBut (banked s (if w then rn :: listedRegisters l else listedRegisters l)) s t ∧ SameStatus s t ∧ SameMemory s t ∧
      SameCoprocs s t ∧
      t.events = s.events ++ rangeEvents s.ttblMinPageSize start (4 * bitcount l) ++ readEvents start (bitcount l)) ∧
  (∀ (a : BlockMode) (cond : Cond) (w : Bool) (rn : RegIdx) (l : BitVec 16) (s : State) (start : Word) (k code : Nat),
    rn ≠ 15#4 → l ≠ 0#16 → (w && l.getLsbD rn.toNat) = false → condPassed cond s.cpsr = true →
    start = a.first (s.x rn) (BitVec.ofNat 32 (4 * bitcount l)) → k < bitcount l → ReadFails id start k code s →
    ∃ t, exec (a.ldm cond w rn l) s = .next t ∧
      FaultsAfter code (rangeEvents s.ttblMinPageSize start (4 * bitcount l) ++ readEvents start (k + 1)) s t ∧
      LoadedUpTo s.mode (listedRegisters l) start k s t)

/-- R291 to R294, R298 to R301: STM in the four modes. The word at `4k` from the first address gets the `k`-th listed register, the base as it
was before write-back (D41); no byte outside the block changes; the ranges and then the writes, ascending, are announced (R70, R71). When the
port refuses word `k` the earlier words are stored and nothing else has happened (R295, D14; for a port the spec says nothing of, log 6). -/
def Obligations.StoreMultipleResult : Prop :=
  (∀ (a : BlockMode) (cond : Cond) (w : Bool) (rn : RegIdx) (l : BitVec 16) (s : State) (start : Word), PlainMemory s → s.mem.wf = true →
    rn ≠ 15#4 → l ≠ 0#16 → condPassed cond s.cpsr = true → start = a.first (s.x rn) (BitVec.ofNat 32 (4 * bitcount l)) →
    ∃ t, exec (a.stm cond w rn l) s = .next t ∧ OkAt (s.pc + 4#32) s t ∧
      (∀ k n, (listedRegisters l)[k]? = some n → t.mem.read32 (start + BitVec.ofNat 32 (4 * k)) = s.x n) ∧
      SameMemoryOutside start (4 * bitcount l) s t ∧
      (w = true → t.x rn = a.writeBack (s.x rn) (BitVec.ofNat 32 (4 * bitcount l))) ∧
      SameRegsBut (banked s (if w then [rn] else [])) s t ∧ SameStatus s t ∧ SameCoprocs s t ∧
      t.events = s.events ++ rangeEvents s.ttblMinPageSize start (4 * bitcount l) ++ writeEvents start (blockValues s.mode l s)) ∧
  (∀ (a : BlockMode) (cond : Cond) (w : Bool) (rn : RegIdx) (l : BitVec 16) (s : State) (start : Word) (k code : Nat), s.mem.wf = true →
    rn ≠ 15#4 → l ≠ 0#16 → condPassed cond s.cpsr = true → start = a.first (s.x rn) (BitVec.ofNat 32 (4 * bitcount l)) →
    WriteFails id start (blockValues s.mode l s) k code s →
    ∃ t, exec (a.stm cond w rn l) s = .next t ∧
      FaultsAfter code
        (rangeEvents s.ttblMinPageSize start (4 * bitcount l) ++ writeEvents start ((blockValues s.mode l s).take (k + 1))) s t ∧
      StoredUpTo start (blockValues s.mode l s) k s t)

/-- R297: STM with bit 15 of the list stores `pc + 8`, with `pc` the address of the STM itself, in the word at the highest address. -/
def Obligations.StmStoresPcPlus8 : Prop :=
  ∀ (a : BlockMode) (cond : Cond) (w : Bool) (rn : RegIdx) (l : BitVec 16) (s : State), PlainMemory s → s.mem.wf = true →
    rn ≠ 15#4 → l.getLsbD 15 = true → condPassed cond s.cpsr = true →
    ∃ t, exec (a.stm cond w rn l) s = .next t ∧ t.result = some .ok ∧
      t.mem.read32 (a.first (s.x rn) (BitVec.ofNat 32 (4 * bitcount l)) + BitVec.ofNat 32 (4 * (bitcount l - 1))) = s.pc + 8#32

/-- R183, R196, R293, R324, R327 to R329: the other register combinations refused whatever the condition. Those of data processing with
`Rd = 15` are decision D5, of STC and LDC with base 15 decision D39, of MCRR, MRRC and MCR decision D10. -/
def Obligations.RegisterRefusals : Prop :=
  ∀ (cond : Cond) (s : State),
    (∀ op sf rn o, Refused (dpInstr op cond sf rn 15#4 o) s) ∧ (∀ v, Refused (.movw cond 15#4 v) s) ∧
    (∀ (a : BlockMode) w rn l, rn = 15#4 ∨ l = 0#16 ∨ (w = true ∧ l.getLsbD rn.toNat = true) → Refused (a.ldm cond w rn l) s) ∧
    (∀ (a : BlockMode) w rn l, rn = 15#4 ∨ l = 0#16 → Refused (a.stm cond w rn l) s) ∧
    (∀ p u d w crd n v, Refused (.stc cond p u d w 15#4 crd n v) s) ∧
    (∀ p u d crd n v, Refused (.ldcLiteral cond p u d true crd n v) s) ∧
    (∀ rt2 rt n o1 cm, rt = 15#4 ∨ rt2 = 15#4 → Refused (.mcrr cond rt2 rt n o1 cm) s) ∧
    (∀ rt2 rt n o1 cm, rt = 15#4 ∨ rt2 = 15#4 ∨ rt = rt2 → Refused (.mrrc cond rt2 rt n o1 cm) s) ∧
    (∀ o1 cn n o2 cm, Refused (.mcr cond o1 cn 15#4 n o2 cm) s)

/-! ### Coprocessors -/

/-- R329, R327, R331, R335: MCR, MCRR and CDP on a reference coprocessor. The register, or the pair, under the decoded key gets the core's registers; no
other register of it, no other coprocessor and no core register changes. CDP adds two of its words when `opc1 = 0`, and is declined
otherwise, which injects the exception (decision D32). The reference coprocessor is the spec's own device (D37). -/
def Obligations.CoprocessorWrites : Prop :=
  (∀ (cond : Cond) (o1 : BitVec 3) (cn rt n : BitVec 4) (o2 : BitVec 3) (cm : BitVec 4) (s : State) (h : Hooks) (r : RefCop),
    rt ≠ 15#4 → condPassed cond s.cpsr = true → s.cop n = some ⟨h, .reference r⟩ → copWf (s.cop n) = true → h.write = true →
    ∃ t r', exec (.mcr cond o1 cn rt n o2 cm) s = .next t ∧ OkAt (s.pc + 4#32) s t ∧ t.cop n = some ⟨h, .reference r'⟩ ∧
      (∀ m, m ≠ n → t.cop m = s.cop m) ∧ cellsRead 0#32 r'.reg (regKey o1 o2 cn cm) = s.x rt ∧
      (∀ a b c d, ¬(a = o1 ∧ b = o2 ∧ c = cn ∧ d = cm) → cellsRead 0#32 r'.reg (regKey a b c d) = cellsRead 0#32 r.reg (regKey a b c d)) ∧
      r'.pair = r.pair ∧ r'.w = r.w ∧ SameRegsBut [] s t ∧ SameStatus s t ∧ SameMemory s t ∧
      t.events = s.events ++ [.hook n (.write o1 o2 cn cm (s.x rt))]) ∧
  (∀ (cond : Cond) (rt2 rt n o1 cm : BitVec 4) (s : State) (h : Hooks) (r : RefCop),
    rt ≠ 15#4 → rt2 ≠ 15#4 → condPassed cond s.cpsr = true → s.cop n = some ⟨h, .reference r⟩ → copWf (s.cop n) = true →
    h.write2 = true →
    ∃ t r', exec (.mcrr cond rt2 rt n o1 cm) s = .next t ∧ OkAt (s.pc + 4#32) s t ∧ t.cop n = some ⟨h, .reference r'⟩ ∧
      (∀ m, m ≠ n → t.cop m = s.cop m) ∧ cellsRead (0#32, 0#32) r'.pair (pairKey o1 cm) = (s.x rt, s.x rt2) ∧
      (∀ a b, ¬(a = o1 ∧ b = cm) → cellsRead (0#32, 0#32) r'.pair (pairKey a b) = cellsRead (0#32, 0#32) r.pair (pairKey a b)) ∧
      r'.reg = r.reg ∧ r'.w = r.w ∧ SameRegsBut [] s t ∧ SameStatus s t ∧ SameMemory s t ∧
      t.events = s.events ++ [.hook n (.write2 o1 cm (s.x rt) (s.x rt2))]) ∧
  (∀ (cond : Cond) (o1 cn cd n : BitVec 4) (o2 : BitVec 3) (cm : BitVec 4) (s : State) (h : Hooks) (r : RefCop),
      condPassed cond s.cpsr = true → s.cop n = some ⟨h, .reference r⟩ → h.dataProcess = true →
      (o1 = 0#4 →
        ∃ t r', exec (.cdp cond o1 cn cd n o2 cm) s = .next t ∧ OkAt (s.pc + 4#32) s t ∧ t.cop n = some ⟨h, .reference r'⟩ ∧
          (∀ m, m ≠ n → t.cop m = s.cop m) ∧ refCopWord r' cd.toNat = refCopWord r cn.toNat + refCopWord r cm.toNat ∧
          (∀ k, k ≠ cd.toNat → refCopWord r' k = refCopWord r k) ∧ r'.reg = r.reg ∧ r'.pair = r.pair ∧
          SameRegsBut [] s t ∧ SameStatus s t ∧ SameMemory s t ∧ t.events = s.events ++ [.hook n (.dataProcess o1 o2 cd cn cm)]) ∧
      (o1 ≠ 0#4 →
        ∃ t, exec (.cdp cond o1 cn cd n o2 cm) s = .next t ∧ Injects [.hook n (.dataProcess o1 o2 cd cn cm)] s t))

/-- R330, R328, R335: MRC and MRRC on a reference coprocessor. MRC with `Rt = 15` writes the four flags from bits 31:28 of the word
(from general knowledge, decision D32). The reference coprocessor is decision D37. -/
def Obligations.CoprocessorReads : Prop :=
  (∀ (cond : Cond) (o1 : BitVec 3) (cn rt n : BitVec 4) (o2 : BitVec 3) (cm : BitVec 4) (s : State) (h : Hooks) (r : RefCop) (v : Word),
    condPassed cond s.cpsr = true → s.cop n = some ⟨h, .reference r⟩ → h.read = true → v = cellsRead 0#32 r.reg (regKey o1 o2 cn cm) →
    ∃ t, exec (.mrc cond o1 cn rt n o2 cm) s = .next t ∧ OkAt (s.pc + 4#32) s t ∧
      (rt ≠ 15#4 → t.x rt = v ∧ t.cpsr = s.cpsr ∧ SameRegsBut (banked s [rt]) s t) ∧
      (rt = 15#4 → t.cpsr.extractLsb' 28 4 = v.extractLsb' 28 4 ∧ t.cpsr.extractLsb' 0 28 = s.cpsr.extractLsb' 0 28 ∧
        SameRegsBut [] s t) ∧
      t.spsr = s.spsr ∧ SameMemory s t ∧ SameCoprocs s t ∧ t.events = s.events ++ [.hook n (.read o1 o2 cn cm)]) ∧
  (∀ (cond : Cond) (rt2 rt n o1 cm : BitVec 4) (s : State) (h : Hooks) (r : RefCop),
    rt ≠ 15#4 → rt2 ≠ 15#4 → rt ≠ rt2 → condPassed cond s.cpsr = true → s.cop n = some ⟨h, .reference r⟩ → h.read2 = true →
    ∃ t, exec (.mrrc cond rt2 rt n o1 cm) s = .next t ∧ OkAt (s.pc + 4#32) s t ∧
      (t.x rt, t.x rt2) = cellsRead (0#32, 0#32) r.pair (pairKey o1 cm) ∧ SameRegsBut (banked s [rt, rt2]) s t ∧ SameStatus s t ∧
      SameMemory s t ∧ SameCoprocs s t ∧ t.events = s.events ++ [.hook n (.read2 o1 cm)])

/-- R323, R324, R326, R335: LDC on a reference coprocessor, with a base register and from a literal. It moves 2 words, 4 when `D = 1`, from
ascending addresses to ascending words; the base register is written after the last word. When the port refuses word `k` the earlier words are
delivered and nothing else has happened (R324, D14). The events are the hook calls and the reads in R323's order, and no range (hook calls
listed in place: log 14). The reference coprocessor is decision D37. -/
def Obligations.LdcResult : Prop :=
  ∀ (cond : Cond) (d : Bool) (n crd : BitVec 4) (v : BitVec 8) (s : State) (h : Hooks) (r : RefCop) (start : Word) (words : Nat),
    condPassed cond s.cpsr = true → s.cop n = some ⟨h, .reference r⟩ → ldcHooks h = true → crd.toNat < 8 → words = (if d then 4 else 2) →
    ((∀ (p u w : Bool) (rn : RegIdx), PlainMemory s → (Instr.ldcImmediate cond p u d w rn crd n v).wellFormed = true → (p || w) = true →
        start = (if p then offsetAddress u (s.x rn) (v.setWidth 32 <<< 2) else s.x rn) →
        ∃ t r', exec (.ldcImmediate cond p u d w rn crd n v) s = .next t ∧ OkAt (s.pc + 4#32) s t ∧ t.cop n = some ⟨h, .reference r'⟩ ∧
          (∀ m, m ≠ n → t.cop m = s.cop m) ∧ CopLoadedUpTo crd words (fun k => s.mem.read32 (wordAddr start k)) r r' ∧
          (w = true → t.x rn = offsetAddress u (s.x rn) (v.setWidth 32 <<< 2)) ∧
          SameRegsBut (banked s (if w then [rn] else [])) s t ∧ SameStatus s t ∧ SameMemory s t ∧
          t.events = s.events ++ ldcEvents n ⟨d, crd, false, v⟩ start (fun k => s.mem.read32 (wordAddr start k)) words ++
            [doneEvent n ⟨d, crd, false, v⟩ words]) ∧
      (∀ (u : Bool), PlainMemory s → start = offsetAddress u ((s.pc + 8#32) &&& ~~~3#32) (v.setWidth 32 <<< 2) →
        ∃ t r', exec (.ldcLiteral cond true u d false crd n v) s = .next t ∧ OkAt (s.pc + 4#32) s t ∧ t.cop n = some ⟨h, .reference r'⟩ ∧
          (∀ m, m ≠ n → t.cop m = s.cop m) ∧ CopLoadedUpTo crd words (fun k => s.mem.read32 (wordAddr start k)) r r' ∧
          SameRegsBut [] s t ∧ SameStatus s t ∧ SameMemory s t ∧
          t.events = s.events ++ ldcEvents n ⟨d, crd, false, v⟩ start (fun k => s.mem.read32 (wordAddr start k)) words ++
            [doneEvent n ⟨d, crd, false, v⟩ words]) ∧
      (∀ (p u w : Bool) (rn : RegIdx) (i : Instr) (k code : Nat) (data : Nat → Word),
        ((Instr.ldcImmediate cond p u d w rn crd n v).wellFormed = true ∧ (p || w) = true ∧ i = .ldcImmediate cond p u d w rn crd n v ∧
            start = (if p then offsetAddress u (s.x rn) (v.setWidth 32 <<< 2) else s.x rn)) ∨
          (i = .ldcLiteral cond true u d false crd n v ∧ start = offsetAddress u ((s.pc + 8#32) &&& ~~~3#32) (v.setWidth 32 <<< 2)) →
        (∀ j, data j = laterPortData (3 * j + 2) s (s.readAccess (wordAddr start j) .word false)) →
        k < words → ReadFails (fun j => 3 * j + 2) start k code s →
        ∃ t r', exec i s = .next t ∧
          FaultsAfter code (ldcEvents n ⟨d, crd, false, v⟩ start data k ++ [doneEvent n ⟨d, crd, false, v⟩ k, .read (wordAddr start k) .word false])
            s t ∧
          t.cop n = some ⟨h, .reference r'⟩ ∧ (∀ m, m ≠ n → t.cop m = s.cop m) ∧ CopLoadedUpTo crd k data r r' ∧ SameRegsBut [] s t ∧
          SameMemory s t))

/-- R323, R324, R325, R335: STC on a reference coprocessor stores 2 words of it, 4 when `D = 1`, at ascending addresses. When the port refuses
word `k` the earlier words are stored and nothing else has happened (R324, D14; for a port the spec says nothing of, log 6). The events are the
hook calls and the writes in R323's order, and no range (log 14). The reference coprocessor is decision D37. -/
def Obligations.StcResult : Prop :=
  ∀ (cond : Cond) (p u d w : Bool) (rn crd n : BitVec 4) (v : BitVec 8) (s : State) (h : Hooks) (r : RefCop) (start : Word) (words : Nat),
    s.mem.wf = true → rn ≠ 15#4 → condPassed cond s.cpsr = true → s.cop n = some ⟨h, .reference r⟩ →
    stcHooks h = true → crd.toNat < 8 → (p || w) = true → words = (if d then 4 else 2) →
    start = (if p then offsetAddress u (s.x rn) (v.setWidth 32 <<< 2) else s.x rn) →
    (PlainMemory s →
      ∃ t, exec (.stc cond p u d w rn crd n v) s = .next t ∧ OkAt (s.pc + 4#32) s t ∧
        (∀ k, k < words → t.mem.read32 (wordAddr start k) = refCopWord r (crd.toNat + k)) ∧
        SameMemoryOutside start (4 * words) s t ∧
        (w = true → t.x rn = offsetAddress u (s.x rn) (v.setWidth 32 <<< 2)) ∧
        SameRegsBut (banked s (if w then [rn] else [])) s t ∧ SameStatus s t ∧ SameCoprocs s t ∧
        t.events = s.events ++ stcEvents n ⟨d, crd, false, v⟩ start (fun k => refCopWord r (crd.toNat + k)) words ++
          [doneEvent n ⟨d, crd, false, v⟩ words]) ∧
    (∀ (k code : Nat) (values : List Word), values = (List.range words).map (fun j => refCopWord r (crd.toNat + j)) →
      WriteFails (fun j => 3 * j + 3) start values k code s →
      ∃ t, exec (.stc cond p u d w rn crd n v) s = .next t ∧
        FaultsAfter code (stcEvents n ⟨d, crd, false, v⟩ start (fun j => refCopWord r (crd.toNat + j)) (k + 1)) s t ∧
        StoredUpTo start values k s t)

/-- R322, R323, R335, R424: every coprocessor instruction whose object is absent or lacks a hook it needs injects the undefined-instruction
exception and calls nothing. One whose hook declines injects it after that call and changes nothing; that a declining hook is treated as a
missing one, and the flags of MRC with `Rt = 15`, are decision D32. For a coprocessor the spec says nothing of, the answer decides, whatever it
is (log 8); of an LDC or STC that such a coprocessor accepts, this says only that it is not injected. The reference coprocessor declines
`CRd > 7` and the unindexed form (`uopt`: decision D39; the reference coprocessor: D37). -/
def Obligations.CoprocessorDeclines : Prop :=
  ∀ (cond : Cond) (n : BitVec 4) (s : State), condPassed cond s.cpsr = true →
    ((∀ o1 cn rt o2 cm, rt ≠ 15#4 → s.copWith n Hooks.write = none →
        ∃ t, exec (.mcr cond o1 cn rt n o2 cm) s = .next t ∧ Injects [] s t) ∧
      (∀ o1 cn rt o2 cm, s.copWith n Hooks.read = none → ∃ t, exec (.mrc cond o1 cn rt n o2 cm) s = .next t ∧ Injects [] s t) ∧
      (∀ rt2 rt o1 cm, rt ≠ 15#4 → rt2 ≠ 15#4 → s.copWith n Hooks.write2 = none →
        ∃ t, exec (.mcrr cond rt2 rt n o1 cm) s = .next t ∧ Injects [] s t) ∧
      (∀ rt2 rt o1 cm, rt ≠ 15#4 → rt2 ≠ 15#4 → rt ≠ rt2 → s.copWith n Hooks.read2 = none →
        ∃ t, exec (.mrrc cond rt2 rt n o1 cm) s = .next t ∧ Injects [] s t) ∧
      (∀ o1 cn cd o2 cm, s.copWith n Hooks.dataProcess = none → ∃ t, exec (.cdp cond o1 cn cd n o2 cm) s = .next t ∧ Injects [] s t) ∧
      (∀ p u d w rn crd v, rn ≠ 15#4 → s.copWith n stcHooks = none →
        ∃ t, exec (.stc cond p u d w rn crd n v) s = .next t ∧ Injects [] s t) ∧
      (∀ p u d w rn crd v, s.copWith n ldcHooks = none → ∃ t, exec (.ldcImmediate cond p u d w rn crd n v) s = .next t ∧ Injects [] s t) ∧
      (∀ p u d crd v, s.copWith n ldcHooks = none → ∃ t, exec (.ldcLiteral cond p u d false crd n v) s = .next t ∧ Injects [] s t)) ∧
    (∀ h b, s.cop n = some ⟨h, .external b⟩ →
      (∀ o1 cn rt o2 cm, rt ≠ 15#4 → h.write = true →
        ∃ t, exec (.mcr cond o1 cn rt n o2 cm) s = .next t ∧
          if Config.hookAnswer s.envTick n (.write o1 o2 cn cm (s.x rt)) then
            Answered [.hook n (.write o1 o2 cn cm (s.x rt))] [] s t ∧ t.cpsr = s.cpsr
          else Injects [.hook n (.write o1 o2 cn cm (s.x rt))] s t) ∧
      (∀ o1 cn rt o2 cm, h.read = true →
        ∃ t, exec (.mrc cond o1 cn rt n o2 cm) s = .next t ∧
          match Config.hookWord s.envTick n (.read o1 o2 cn cm) with
          | some v =>
            Answered [.hook n (.read o1 o2 cn cm)] (banked s [rt]) s t ∧ (rt ≠ 15#4 → t.x rt = v ∧ t.cpsr = s.cpsr) ∧
              (rt = 15#4 → t.cpsr.extractLsb' 28 4 = v.extractLsb' 28 4 ∧ t.cpsr.extractLsb' 0 28 = s.cpsr.extractLsb' 0 28)
          | none => Injects [.hook n (.read o1 o2 cn cm)] s t) ∧
      (∀ rt2 rt o1 cm, rt ≠ 15#4 → rt2 ≠ 15#4 → h.write2 = true →
        ∃ t, exec (.mcrr cond rt2 rt n o1 cm) s = .next t ∧
          if Config.hookAnswer s.envTick n (.write2 o1 cm (s.x rt) (s.x rt2)) then
            Answered [.hook n (.write2 o1 cm (s.x rt) (s.x rt2))] [] s t ∧ t.cpsr = s.cpsr
          else Injects [.hook n (.write2 o1 cm (s.x rt) (s.x rt2))] s t) ∧
      (∀ rt2 rt o1 cm, rt ≠ 15#4 → rt2 ≠ 15#4 → rt ≠ rt2 → h.read2 = true →
        ∃ t, exec (.mrrc cond rt2 rt n o1 cm) s = .next t ∧
          match Config.hookPair s.envTick n (.read2 o1 cm) with
          | some v => Answered [.hook n (.read2 o1 cm)] (banked s [rt, rt2]) s t ∧ (t.x rt, t.x rt2) = v ∧ t.cpsr = s.cpsr
          | none => Injects [.hook n (.read2 o1 cm)] s t) ∧
      (∀ o1 cn cd o2 cm, h.dataProcess = true →
        ∃ t, exec (.cdp cond o1 cn cd n o2 cm) s = .next t ∧
          if Config.hookAnswer s.envTick n (.dataProcess o1 o2 cd cn cm) then
            Answered [.hook n (.dataProcess o1 o2 cd cn cm)] [] s t ∧ t.cpsr = s.cpsr
          else Injects [.hook n (.dataProcess o1 o2 cd cn cm)] s t) ∧
      (∀ p u d w rn crd v, rn ≠ 15#4 → stcHooks h = true →
        if Config.hookAnswer s.envTick n (.ldcstcAccept d crd (!p && !w) v) then
          ∀ t, exec (.stc cond p u d w rn crd n v) s = .next t → t.result ≠ some .undefInjected
        else ∃ t, exec (.stc cond p u d w rn crd n v) s = .next t ∧ Injects [.hook n (.ldcstcAccept d crd (!p && !w) v)] s t) ∧
      (∀ p u d w rn crd v, ldcHooks h = true →
        if Config.hookAnswer s.envTick n (.ldcstcAccept d crd (!p && !w) v) then
          ∀ t, exec (.ldcImmediate cond p u d w rn crd n v) s = .next t → t.result ≠ some .undefInjected
        else ∃ t, exec (.ldcImmediate cond p u d w rn crd n v) s = .next t ∧ Injects [.hook n (.ldcstcAccept d crd (!p && !w) v)] s t) ∧
      (∀ p u d crd v, ldcHooks h = true →
        if Config.hookAnswer s.envTick n (.ldcstcAccept d crd (!p) v) then
          ∀ t, exec (.ldcLiteral cond p u d false crd n v) s = .next t → t.result ≠ some .undefInjected
        else ∃ t, exec (.ldcLiteral cond p u d false crd n v) s = .next t ∧ Injects [.hook n (.ldcstcAccept d crd (!p) v)] s t)) ∧
    (∀ h r, s.cop n = some ⟨h, .reference r⟩ →
      (∀ p u d w rn crd v, rn ≠ 15#4 → stcHooks h = true → 8 ≤ crd.toNat ∨ (p || w) = false →
        ∃ t, exec (.stc cond p u d w rn crd n v) s = .next t ∧ Injects [.hook n (.ldcstcAccept d crd (!p && !w) v)] s t) ∧
      (∀ p u d w rn crd v, ldcHooks h = true → 8 ≤ crd.toNat ∨ (p || w) = false →
        ∃ t, exec (.ldcImmediate cond p u d w rn crd n v) s = .next t ∧ Injects [.hook n (.ldcstcAccept d crd (!p && !w) v)] s t) ∧
      (∀ p u d crd v, ldcHooks h = true → 8 ≤ crd.toNat ∨ p = false →
        ∃ t, exec (.ldcLiteral cond p u d false crd n v) s = .next t ∧ Injects [.hook n (.ldcstcAccept d crd (!p) v)] s t))

/-! ### Hypercalls -/

/-- R353: CPS. In a privileged mode the selected masks are cleared or set and the mode replaced when `M = 1`, and no other bit of the CPSR
changes; in User mode only the PC does (D23). -/
def Obligations.CpsResult : Prop :=
  ∀ (cond : Cond) (imod : BitVec 2) (m a i f : Bool) (mode : BitVec 5) (s : State), condPassed cond s.cpsr = true →
    (m = true → s.mode ≠ .usr → (modeOfBits mode).isSome = true) →
    ∃ t, exec (.hypCps cond imod m a i f mode) s = .next t ∧ OkAt (s.pc + 4#32) s t ∧ (s.mode = .usr → t.cpsr = s.cpsr) ∧
      (s.mode ≠ .usr → t.cpsr.extractLsb' 9 23 = s.cpsr.extractLsb' 9 23 ∧
        t.cpsr.getLsbD 8 = (if a && imod.getLsbD 1 then imod.getLsbD 0 else s.cpsr.getLsbD 8) ∧
        t.cpsr.getLsbD 7 = (if i && imod.getLsbD 1 then imod.getLsbD 0 else s.cpsr.getLsbD 7) ∧
        t.cpsr.getLsbD 6 = (if f && imod.getLsbD 1 then imod.getLsbD 0 else s.cpsr.getLsbD 6) ∧
        t.cpsr.getLsbD 5 = s.cpsr.getLsbD 5 ∧ modeField t.cpsr = (if m then mode else modeField s.cpsr)) ∧
      t.spsr = s.spsr ∧ SameRegsBut [] s t ∧ SameMemory s t ∧ SameCoprocs s t ∧ t.events = s.events

/-- R354: MRS reads all 32 bits of the CPSR, or of the current mode's SPSR, into the register. -/
def Obligations.MrsResult : Prop :=
  ∀ (cond : Cond) (r : Bool) (rd : RegIdx) (s : State) (v : Word), rd ≠ 15#4 → condPassed cond s.cpsr = true →
    (if r then s.spsrOf s.mode else some s.cpsr) = some v →
    ∃ t, exec (.hypMrs cond r rd) s = .next t ∧ OkAt (s.pc + 4#32) s t ∧ t.x rd = v ∧ SameRegsBut (banked s [rd]) s t ∧
      SameStatus s t ∧ SameMemory s t ∧ SameCoprocs s t ∧ t.events = s.events

/-- R355 to R357: MSR writes the selected bytes and no other bit: of the SPSR unchecked, of the CPSR reduced in User mode (D22) and refused when
the merged mode is illegal (D21). -/
def Obligations.MsrResult : Prop :=
  ∀ (cond : Cond) (mask : BitVec 4) (src : MsrSource) (s : State), src.legal = true → condPassed cond s.cpsr = true →
    (∀ old, s.spsrOf s.mode = some old →
      ∃ t new, exec (src.instr cond true mask) s = .next t ∧ OkAt (s.pc + 4#32) s t ∧ t.spsrOf s.mode = some new ∧
        (∀ k, k < 32 → new.getLsbD k = if mask.getLsbD (k / 8) then (src.value s).getLsbD k else old.getLsbD k) ∧
        (∀ m, m ≠ s.mode → t.spsrOf m = s.spsrOf m) ∧ t.cpsr = s.cpsr ∧ SameRegsBut [] s t ∧ SameMemory s t ∧ SameCoprocs s t ∧
        t.events = s.events) ∧
    (∀ new : Word,
      (∀ k, k < 32 → new.getLsbD k =
        if mask.getLsbD (k / 8) && (decide (s.mode ≠ .usr) || decide (27 ≤ k) || decide (16 ≤ k ∧ k ≤ 19)) then (src.value s).getLsbD k
        else s.cpsr.getLsbD k) →
      (legalMode new = true →
        ∃ t, exec (src.instr cond false mask) s = .next t ∧ OkAt (s.pc + 4#32) s t ∧ t.cpsr = new ∧ t.spsr = s.spsr ∧
          SameRegsBut [] s t ∧ SameMemory s t ∧ SameCoprocs s t ∧ t.events = s.events) ∧
      (legalMode new = false → Refused (src.instr cond false mask) s))

/-- R358: WFI emits the wait and advances the PC, in every mode, and changes nothing else. That the wait returns at once is decision D36
(log 31). -/
def Obligations.WfiResult : Prop :=
  ∀ (cond : Cond) (s : State), condPassed cond s.cpsr = true →
    ∃ t, exec (.hypWfi cond) s = .next t ∧ OkAt (s.pc + 4#32) s t ∧ SameRegsBut [] s t ∧ SameStatus s t ∧ SameMemory s t ∧
      SameCoprocs s t ∧ t.events = s.events ++ [.irqWait]

/-- R381: RFE loads the PC from the lower word and the whole CPSR from the higher, writes back in the old mode's bank and emits one
`IrqDeassert`; a loaded CPSR with an illegal mode is refused after the two reads with nothing written (D21).
The PC verbatim is decision D16, the write-back in the old mode's bank D40. A refused read leaves everything as it was (R383, D14). -/
def Obligations.RfeResult : Prop :=
  ∀ (a : BlockMode) (cond : Cond) (w : Bool) (rn : RegIdx) (s : State) (addr : Word), s.mode ≠ .usr → rn ≠ 15#4 →
    condPassed cond s.cpsr = true → addr = a.first (s.x rn) 8#32 →
    (PlainMemory s → legalMode (s.mem.read32 (addr + 4#32)) = true →
      ∃ t, exec (.hypRfe cond a.p a.u w rn) s = .next t ∧ OkAt (s.mem.read32 addr) s t ∧ t.cpsr = s.mem.read32 (addr + 4#32) ∧
        (w = true → t.xm s.mode rn = a.writeBack (s.x rn) 8#32) ∧ SameRegsBut (banked s (if w then [rn] else [])) s t ∧
        t.spsr = s.spsr ∧ SameMemory s t ∧ SameCoprocs s t ∧
        t.events = s.events ++ [.read addr .word false, .read (addr + 4#32) .word false, .irqDeassert]) ∧
    (PlainMemory s → legalMode (s.mem.read32 (addr + 4#32)) = false →
      ∃ t, exec (.hypRfe cond a.p a.u w rn) s = .next t ∧ Halts [.read addr .word false, .read (addr + 4#32) .word false] s t) ∧
    (∀ k code, k < 2 → ReadFails id addr k code s →
      ∃ t, exec (.hypRfe cond a.p a.u w rn) s = .next t ∧ FaultsUntouched code (readEvents addr (k + 1)) s t)

/-- R382: SRS stores the current mode's `lr` and SPSR on the stack of the given mode, whose `r13` is written back. That the given
mode may be the current one is decision D26. When the second write is refused the first word stays stored, and nothing else has happened (D14;
for a port the spec says nothing of, log 6). -/
def Obligations.SrsResult : Prop :=
  ∀ (a : BlockMode) (cond : Cond) (w : Bool) (mode : BitVec 5) (m : Mode) (saved : Word) (s : State) (addr : Word),
    s.mem.wf = true → s.spsrOf s.mode = some saved → modeOfBits mode = some m → condPassed cond s.cpsr = true →
    addr = a.first (s.xm m 13#4) 8#32 →
    (PlainMemory s →
      ∃ t, exec (.hypSrs cond a.p a.u w mode) s = .next t ∧ OkAt (s.pc + 4#32) s t ∧ t.mem.read32 addr = s.x 14#4 ∧
        t.mem.read32 (addr + 4#32) = saved ∧ SameMemoryOutside addr 8 s t ∧
        (w = true → t.xm m 13#4 = a.writeBack (s.xm m 13#4) 8#32) ∧
        SameRegsBut (if w then [13#4].filterMap (bank m) else []) s t ∧ SameStatus s t ∧ SameCoprocs s t ∧
        t.events = s.events ++ [.write addr .word (s.x 14#4) false, .write (addr + 4#32) .word saved false]) ∧
    (∀ k code, WriteFails id addr [s.x 14#4, saved] k code s →
      ∃ t, exec (.hypSrs cond a.p a.u w mode) s = .next t ∧
        FaultsAfter code (writeEvents addr ([s.x 14#4, saved].take (k + 1))) s t ∧ StoredUpTo addr [s.x 14#4, saved] k s t)

/-- R383, R386: LDM (exception return) loads the listed registers of the current mode, writes back in that mode's bank, then the PC gets the
last word, the CPSR the SPSR, and one `IrqDeassert` is emitted. The SPSR stays. The PC verbatim is decision D16, the
write-back before the CPSR changes D40. When the port refuses word `k` the registers of the earlier words are loaded and nothing else has
happened: no write-back, no return (R383, D14). -/
def Obligations.LdmExceptionReturnResult : Prop :=
  ∀ (a : BlockMode) (cond : Cond) (w : Bool) (rn : RegIdx) (l : BitVec 16) (saved : Word) (s : State) (start : Word),
    l.getLsbD 15 = true → s.spsrOf s.mode = some saved → legalMode saved = true → rn ≠ 15#4 → (w && l.getLsbD rn.toNat) = false →
    condPassed cond s.cpsr = true → start = a.first (s.x rn) (BitVec.ofNat 32 (4 * bitcount l)) →
    (PlainMemory s →
      ∃ t, exec (.hypLdmExceptionReturn cond a.p a.u w rn l) s = .next t ∧
        OkAt (s.mem.read32 (start + BitVec.ofNat 32 (4 * (listedRegisters l).length))) s t ∧ t.cpsr = saved ∧ t.spsr = s.spsr ∧
        (∀ k n, (listedRegisters l)[k]? = some n → t.xm s.mode n = s.mem.read32 (start + BitVec.ofNat 32 (4 * k))) ∧
        (w = true → t.xm s.mode rn = a.writeBack (s.x rn) (BitVec.ofNat 32 (4 * bitcount l))) ∧
        SameRegsBut (banked s (if w then rn :: listedRegisters l else listedRegisters l)) s t ∧ SameMemory s t ∧ SameCoprocs s t ∧
        t.events = s.events ++ rangeEvents s.ttblMinPageSize start (4 * bitcount l) ++ readEvents start (bitcount l) ++ [.irqDeassert]) ∧
    (∀ k code, k < bitcount l → ReadFails id start k code s →
      ∃ t, exec (.hypLdmExceptionReturn cond a.p a.u w rn l) s = .next t ∧
        FaultsAfter code (rangeEvents s.ttblMinPageSize start (4 * bitcount l) ++ readEvents start (k + 1)) s t ∧
        LoadedUpTo s.mode (listedRegisters l) start k s t)

/-- R384, R385: LDM (user registers) loads the User bank from an address in the current mode's base register; STM (user registers) stores the
User bank in every mode, and `pc + 8` last when bit 15 is listed. The base in the current mode's bank and STM in every
mode are decision D46. When the port refuses word `k` the earlier words are loaded, or stored, and nothing else has happened (R295, D14; the
memory of a port the spec says nothing of, log 6). -/
def Obligations.UserBankTransfers : Prop :=
  (∀ (a : BlockMode) (cond : Cond) (rn : RegIdx) (l : BitVec 16) (s : State) (start : Word), l.getLsbD 15 = false →
      hasSpsr s.mode = true → rn ≠ 15#4 → l ≠ 0#16 → condPassed cond s.cpsr = true →
      start = a.first (s.x rn) (BitVec.ofNat 32 (4 * bitcount l)) →
      (PlainMemory s →
        ∃ t, exec (.hypLdmUserRegisters cond a.p a.u false rn l) s = .next t ∧ OkAt (s.pc + 4#32) s t ∧
          (∀ k n, (listedRegisters l)[k]? = some n → t.xm .usr n = s.mem.read32 (start + BitVec.ofNat 32 (4 * k))) ∧
          SameRegsBut ((listedRegisters l).filterMap (bank .usr)) s t ∧ SameStatus s t ∧ SameMemory s t ∧ SameCoprocs s t ∧
          t.events = s.events ++ rangeEvents s.ttblMinPageSize start (4 * bitcount l) ++ readEvents start (bitcount l)) ∧
      (∀ k code, k < bitcount l → ReadFails id start k code s →
        ∃ t, exec (.hypLdmUserRegisters cond a.p a.u false rn l) s = .next t ∧
          FaultsAfter code (rangeEvents s.ttblMinPageSize start (4 * bitcount l) ++ readEvents start (k + 1)) s t ∧
          LoadedUpTo .usr (listedRegisters l) start k s t)) ∧
  (∀ (a : BlockMode) (cond : Cond) (rn : RegIdx) (l : BitVec 16) (s : State) (start : Word), s.mem.wf = true →
      rn ≠ 15#4 → l ≠ 0#16 → condPassed cond s.cpsr = true → start = a.first (s.x rn) (BitVec.ofNat 32 (4 * bitcount l)) →
      (PlainMemory s →
        ∃ t, exec (.hypStmUserRegisters cond a.p a.u rn l) s = .next t ∧ OkAt (s.pc + 4#32) s t ∧
          (∀ k n, (listedRegisters l)[k]? = some n → t.mem.read32 (start + BitVec.ofNat 32 (4 * k)) = s.xm .usr n) ∧
          (l.getLsbD 15 = true → t.mem.read32 (start + BitVec.ofNat 32 (4 * (listedRegisters l).length)) = s.pc + 8#32) ∧
          SameMemoryOutside start (4 * bitcount l) s t ∧ SameRegsBut [] s t ∧ SameStatus s t ∧ SameCoprocs s t ∧
          t.events = s.events ++ rangeEvents s.ttblMinPageSize start (4 * bitcount l) ++ writeEvents start (blockValues .usr l s)) ∧
      (∀ k code, WriteFails id start (blockValues .usr l s) k code s →
        ∃ t, exec (.hypStmUserRegisters cond a.p a.u rn l) s = .next t ∧
          FaultsAfter code
            (rangeEvents s.ttblMinPageSize start (4 * bitcount l) ++ writeEvents start ((blockValues .usr l s).take (k + 1))) s t ∧
          StoredUpTo start (blockValues .usr l s) k s t))

/-- R387 to R399, R386: the SUBS PC, LR family. The result becomes the PC verbatim, the SPSR the CPSR; the operation's own flags are dropped;
one `IrqDeassert`. That the PC is written verbatim is decision D16. -/
def Obligations.SubsPcResult : Prop :=
  ∀ (op : AluOp) (cond : Cond) (rn : RegIdx) (o : Operand2) (s : State) (saved : Word),
    s.spsrOf s.mode = some saved → legalMode saved = true → condPassed cond s.cpsr = true →
    ∃ t, exec (subsPcInstr op cond rn o) s = .next t ∧
      OkAt (alu op (s.x rn) (o.value s).1 (flagC s.cpsr) (o.value s).2).value s t ∧ t.cpsr = saved ∧ t.spsr = s.spsr ∧
      SameRegsBut [] s t ∧ SameMemory s t ∧ SameCoprocs s t ∧ t.events = s.events ++ [.irqDeassert]

/-- R36, R353, R354, R356, R381 to R387, R435: what the hypercalls refuse, whatever the condition: a mode, a register, an illegal mode
value. Register 15 of MSR and RFE is decision D10, the illegal modes D21 and (for SRS) D26, reading an SPSR in User and System D24, SUBS PC, LR
there D25. -/
def Obligations.HypercallRefusals : Prop :=
  ∀ (cond : Cond) (s : State),
    (∀ imod a i f mode, s.mode ≠ .usr → modeOfBits mode = none → Refused (.hypCps cond imod true a i f mode) s) ∧
    (∀ r, Refused (.hypMrs cond r 15#4) s) ∧ (∀ r mask, Refused (.hypMsrRegister cond r mask 15#4) s) ∧
    (∀ p u w rn, s.mode = .usr ∨ rn = 15#4 → Refused (.hypRfe cond p u w rn) s) ∧
    (∀ p u w mode, modeOfBits mode = none → Refused (.hypSrs cond p u w mode) s) ∧
    (∀ p u w rn l, rn = 15#4 ∨ (w = true ∧ l.getLsbD rn.toNat = true) → Refused (.hypLdmExceptionReturn cond p u w rn l) s) ∧
    (∀ p u w rn l, rn = 15#4 ∨ w = true ∨ l = 0#16 → Refused (.hypLdmUserRegisters cond p u w rn l) s) ∧
    (∀ p u rn l, rn = 15#4 ∨ l = 0#16 → Refused (.hypStmUserRegisters cond p u rn l) s) ∧
    (hasSpsr s.mode = false →
      (∀ rd, Refused (.hypMrs cond true rd) s) ∧ (∀ mask (src : MsrSource), Refused (src.instr cond true mask) s) ∧
      (∀ p u w mode, Refused (.hypSrs cond p u w mode) s) ∧ (∀ p u w rn l, Refused (.hypLdmExceptionReturn cond p u w rn l) s) ∧
      (∀ p u w rn l, Refused (.hypLdmUserRegisters cond p u w rn l) s) ∧ (∀ op rn o, Refused (subsPcInstr op cond rn o) s)) ∧
    (∀ saved, s.spsrOf s.mode = some saved → legalMode saved = false →
      (∀ p u w rn l, Refused (.hypLdmExceptionReturn cond p u w rn l) s) ∧ (∀ op rn o, Refused (subsPcInstr op cond rn o) s))
end

