-- ==== Sys2Proof/Laws/Memory.lean ====
section
/-! SUPPORT. The laws of guest memory and of the coprocessor maps: every write keeps the canonical form, a read after a write, and what a
write leaves alone. -/

namespace Sys2Proof.Machine

/-- A key other than the written one reads as before. -/
theorem cellsRead_write_ne {V : Type} [DecidableEq V] (d : V) (m : List (Nat × V)) {k j : Nat} (v : V) (h : j ≠ k) :
    cellsRead d (cellsWrite d m k v) j = cellsRead d m j := by
  induction m with
  | nil => unfold cellsWrite; split <;> simp [cellsRead, h]
  | cons c rest ih =>
    obtain ⟨k', v'⟩ := c
    unfold cellsWrite
    split
    · split <;> simp [cellsRead, h]
    · split
      · subst_vars; split <;> simp [cellsRead, h]
      · simp [cellsRead, ih]

/-- Every key below the first of a canonical map reads the default. -/
theorem cellsRead_below {V : Type} [DecidableEq V] (d : V) (b : Nat) {lo k : Nat} (m : List (Nat × V)) (hm : cellsWf d b lo m = true)
    (h : k < lo) : cellsRead d m k = d := by
  induction m generalizing lo with
  | nil => rfl
  | cons c rest ih =>
    obtain ⟨k', v'⟩ := c
    simp only [cellsWf, Bool.and_eq_true, decide_eq_true_eq] at hm
    obtain ⟨⟨⟨h1, _⟩, _⟩, h4⟩ := hm
    have : k ≠ k' := by omega
    simp only [cellsRead, if_neg this]
    exact ih h4 (by omega)

/-- The written key of a canonical map reads back. -/
theorem cellsRead_write_self {V : Type} [DecidableEq V] (d : V) (b : Nat) {lo : Nat} (m : List (Nat × V)) (k : Nat) (v : V)
    (hm : cellsWf d b lo m = true) : cellsRead d (cellsWrite d m k v) k = v := by
  induction m generalizing lo with
  | nil => unfold cellsWrite; split <;> simp_all [cellsRead]
  | cons c rest ih =>
    obtain ⟨k', v'⟩ := c
    simp only [cellsWf, Bool.and_eq_true, decide_eq_true_eq] at hm
    obtain ⟨⟨⟨_, _⟩, _⟩, h4⟩ := hm
    unfold cellsWrite
    split
    · rename_i hlt
      split
      · rename_i hv
        have : k ≠ k' := by omega
        simp only [cellsRead, if_neg this, hv]
        exact cellsRead_below d b rest h4 (by omega)
      · simp [cellsRead]
    · split
      · split
        · rename_i hk hv
          rw [hv, cellsRead_below d b rest h4 (by omega)]
        · simp [cellsRead]
      · rename_i hk
        simp only [cellsRead, if_neg hk]
        exact ih h4

/-- A canonical map stays canonical when its bound from below is lowered. -/
theorem cellsWf_mono {V : Type} [DecidableEq V] (d : V) (b : Nat) {lo lo' : Nat} (m : List (Nat × V)) (hm : cellsWf d b lo m = true)
    (h : lo' ≤ lo) : cellsWf d b lo' m = true := by
  cases m with
  | nil => rfl
  | cons c rest =>
    obtain ⟨k', v'⟩ := c
    simp only [cellsWf, Bool.and_eq_true, decide_eq_true_eq] at hm ⊢
    exact ⟨⟨⟨by omega, hm.1.1.2⟩, hm.1.2⟩, hm.2⟩

/-- A write keeps the canonical form. -/
theorem cellsWf_write {V : Type} [DecidableEq V] (d : V) (b : Nat) {lo : Nat} (m : List (Nat × V)) {k : Nat} (v : V)
    (hm : cellsWf d b lo m = true) (hlo : lo ≤ k) (hk : k < b) : cellsWf d b lo (cellsWrite d m k v) = true := by
  induction m generalizing lo with
  | nil => unfold cellsWrite; split <;> simp_all [cellsWf]
  | cons c rest ih =>
    obtain ⟨k', v'⟩ := c
    have hm' := hm
    simp only [cellsWf, Bool.and_eq_true, decide_eq_true_eq] at hm
    obtain ⟨⟨⟨h1, h2⟩, h3⟩, h4⟩ := hm
    unfold cellsWrite
    split
    · rename_i hlt
      split
      · exact hm'
      · rename_i hv
        simp only [cellsWf, Bool.and_eq_true, decide_eq_true_eq]
        exact ⟨⟨⟨hlo, hk⟩, hv⟩, ⟨⟨by omega, h2⟩, h3⟩, h4⟩
    · split
      · rename_i hkk
        split
        · exact cellsWf_mono d b rest h4 (by omega)
        · rename_i hv
          simp only [cellsWf, Bool.and_eq_true, decide_eq_true_eq]
          exact ⟨⟨⟨hlo, hk⟩, hv⟩, by rw [hkk]; exact h4⟩
      · rename_i hlt hne
        simp only [cellsWf, Bool.and_eq_true, decide_eq_true_eq]
        exact ⟨⟨⟨h1, h2⟩, h3⟩, ih h4 (by omega)⟩

/-! ### Guest memory -/

/-- A byte write keeps the canonical form. -/
theorem Memory.wf_write8 (m : Memory) (a : Word) (v : Byte) (h : m.wf = true) : (m.write8 a v).wf = true :=
  cellsWf_write _ _ m v h (Nat.zero_le _) a.isLt

/-- The written byte reads back. -/
theorem Memory.read8_write8_self (m : Memory) (a : Word) (v : Byte) (h : m.wf = true) : (m.write8 a v).read8 a = v :=
  cellsRead_write_self _ _ m _ v h

/-- Every other byte reads as before. -/
theorem Memory.read8_write8_ne (m : Memory) {a b : Word} (v : Byte) (h : b ≠ a) : (m.write8 a v).read8 b = m.read8 b :=
  cellsRead_write_ne _ m v (fun e => h (BitVec.eq_of_toNat_eq e))

/-- A halfword write keeps the canonical form. -/
theorem Memory.wf_write16 (m : Memory) (a v : Word) (h : m.wf = true) : (m.write16 a v).wf = true :=
  Memory.wf_write8 _ _ _ (Memory.wf_write8 _ _ _ h)

/-- A word write keeps the canonical form. -/
theorem Memory.wf_write32 (m : Memory) (a v : Word) (h : m.wf = true) : (m.write32 a v).wf = true :=
  Memory.wf_write8 _ _ _ (Memory.wf_write8 _ _ _ (Memory.wf_write8 _ _ _ (Memory.wf_write8 _ _ _ h)))

/-- A write of any size keeps the canonical form. -/
theorem Memory.wf_writeSize (m : Memory) (a v : Word) (n : Size) (h : m.wf = true) : (m.writeSize a v n).wf = true := by
  cases n
  · exact m.wf_write8 _ _ h
  · exact m.wf_write16 _ _ h
  · exact m.wf_write32 _ _ h

/-- A word write leaves every byte but its four. -/
theorem Memory.read8_write32_ne (m : Memory) {a b : Word} (v : Word) (h : ¬ (b - a).toNat < 4) : (m.write32 a v).read8 b = m.read8 b := by
  have h0 : b ≠ a := by rintro rfl; simp at h
  have h1 : b ≠ a + 1#32 := by rintro rfl; apply h; bv_omega
  have h2 : b ≠ a + 2#32 := by rintro rfl; apply h; bv_omega
  have h3 : b ≠ a + 3#32 := by rintro rfl; apply h; bv_omega
  simp [Memory.write32, Memory.read8_write8_ne, h0, h1, h2, h3]

/-- A write of any size leaves every byte outside its own. -/
theorem Memory.read8_writeSize_ne (m : Memory) {a b : Word} (v : Word) (n : Size) (h : ¬ (b - a).toNat < sizeBytes n) :
    (m.writeSize a v n).read8 b = m.read8 b := by
  cases n
  · have h0 : b ≠ a := by rintro rfl; simp [sizeBytes] at h
    exact m.read8_write8_ne _ h0
  · have h0 : b ≠ a := by rintro rfl; simp [sizeBytes] at h
    have h1 : b ≠ a + 1#32 := by rintro rfl; apply h; simp only [sizeBytes]; bv_omega
    simp [Memory.writeSize, Memory.write16, Memory.read8_write8_ne, h0, h1]
  · exact m.read8_write32_ne v h

end Sys2Proof.Machine
end

