-- ==== Sys2Proof/Laws/Harness.lean ====
section
/-! SUPPORT. What the reference harness does: the fields of its start, the canonical form of an image in memory, and the cases of a run. -/

namespace Sys2Proof.Machine

@[simp] theorem harnessStart_regs (ns : List (BitVec 4)) (l : List (Word × Word)) : (harnessStart ns l).regs = State.reset.regs := rfl
@[simp] theorem harnessStart_pc (ns : List (BitVec 4)) (l : List (Word × Word)) : (harnessStart ns l).pc = State.reset.pc := rfl
@[simp] theorem harnessStart_cpsr (ns : List (BitVec 4)) (l : List (Word × Word)) : (harnessStart ns l).cpsr = State.reset.cpsr := rfl
@[simp] theorem harnessStart_spsr (ns : List (BitVec 4)) (l : List (Word × Word)) : (harnessStart ns l).spsr = State.reset.spsr := rfl
@[simp] theorem harnessStart_halted (ns : List (BitVec 4)) (l : List (Word × Word)) : (harnessStart ns l).halted = State.reset.halted := rfl
@[simp] theorem harnessStart_mem (ns : List (BitVec 4)) (l : List (Word × Word)) :
    (harnessStart ns l).mem = State.reset.mem.placeImage l := rfl
@[simp] theorem harnessStart_port (ns : List (BitVec 4)) (l : List (Word × Word)) : (harnessStart ns l).port = State.reset.port := rfl
@[simp] theorem harnessStart_coprocs (ns : List (BitVec 4)) (l : List (Word × Word)) :
    (harnessStart ns l).coprocs = referenceRegistry ns := rfl
@[simp] theorem harnessStart_ttblMinPageSize (ns : List (BitVec 4)) (l : List (Word × Word)) :
    (harnessStart ns l).ttblMinPageSize = State.reset.ttblMinPageSize := rfl
@[simp] theorem harnessStart_hypLayout (ns : List (BitVec 4)) (l : List (Word × Word)) : (harnessStart ns l).hypLayout = State.reset.hypLayout := rfl
@[simp] theorem harnessStart_hyp (ns : List (BitVec 4)) (l : List (Word × Word)) : (harnessStart ns l).hyp = State.reset.hyp := rfl
@[simp] theorem harnessStart_envTick (ns : List (BitVec 4)) (l : List (Word × Word)) :
    (harnessStart ns l).envTick = State.reset.envTick := rfl
@[simp] theorem harnessStart_events (ns : List (BitVec 4)) (l : List (Word × Word)) : (harnessStart ns l).events = State.reset.events := rfl
@[simp] theorem harnessStart_result (ns : List (BitVec 4)) (l : List (Word × Word)) : (harnessStart ns l).result = State.reset.result := rfl

@[simp] theorem HarnessRun.cons_trace (e : Word × Option ResultKind) (r : HarnessRun) : (r.cons e).trace = e :: r.trace := rfl
@[simp] theorem HarnessRun.cons_state (e : Word × Option ResultKind) (r : HarnessRun) : (r.cons e).state = r.state := rfl
@[simp] theorem HarnessRun.cons_stop (e : Word × Option ResultKind) (r : HarnessRun) : (r.cons e).stop = r.stop := rfl

@[simp] theorem runHarness_zero (s : State) : runHarness 0 s = ⟨[], s, .maxSteps⟩ := rfl

/-- Placing an image keeps memory canonical. -/
theorem Memory.wf_placeImage (l : List (Word × Word)) (m : Memory) (h : m.wf = true) : (m.placeImage l).wf = true := by
  induction l generalizing m with
  | nil => exact h
  | cons p l ih => exact ih _ (Memory.wf_write32 m p.1 p.2 h)

/-- What a run of at least one step can do: go on after Ok, stop after another result, or make no invocation. -/
theorem runHarness_succ_cases (n : Nat) (s : State) :
    (∃ t, harnessInvoke s = .next t ∧ t.result = some .ok ∧ runHarness (n + 1) s = (runHarness n t).cons (fetchWord s, some .ok)) ∨
    (∃ t, harnessInvoke s = .next t ∧ t.result ≠ some .ok ∧ runHarness (n + 1) s = ⟨[(fetchWord s, t.result)], t, .notOk⟩) ∨
    (∃ why, harnessInvoke s = .fault why ∧ runHarness (n + 1) s = ⟨[], s, .fault why⟩) ∨
    (∃ why, harnessInvoke s = .refused why ∧ runHarness (n + 1) s = ⟨[], s, .refused why⟩) := by
  rw [runHarness]
  cases harnessInvoke s with
  | next t =>
    by_cases ok : t.result = some .ok
    · exact .inl ⟨t, rfl, ok, by simp [ok]⟩
    · exact .inr (.inl ⟨t, rfl, ok, by simp [ok]⟩)
  | fault why => exact .inr (.inr (.inl ⟨why, rfl, rfl⟩))
  | refused why => exact .inr (.inr (.inr ⟨why, rfl, rfl⟩))

end Sys2Proof.Machine
end

