-- ==== Sys2Proof/Laws/Layout.lean ====
section
/-! SUPPORT. The decoder under a hypercall layout: H0 is the decoder of the opcode table, and what another build's layout can give. -/

namespace Sys2Proof.Machine

@[simp] theorem decodeIn_h0 (hyp : Bool) (w : Word) : decodeIn .h0 hyp w = decode hyp w := rfl

/-- What another build's layout can give: a well-formed hypercall form with the condition of the word, or no form. -/
theorem buildForms_cases (n : Nat) (f : Fields) :
    (∃ i, buildForms n f = .ok i ∧ i.isHypercall = true ∧ i.wellFormed = true ∧ i.cond = f.cond) ∨ buildForms n f = .error .hypNoForm := by
  unfold buildForms
  split
  · rename_i i _
    split
    · rename_i h
      simp only [Bool.and_eq_true, beq_iff_eq] at h
      exact .inl ⟨i, rfl, h.1.1, h.1.2, h.2⟩
    · exact .inr rfl
  · exact .inr rfl

/-- A layout matters for the words of the SVC space only: with the flag every other word is refused, without it the table decides. -/
theorem decodeFields_of_not_svc (forms : HypForms) (hyp : Bool) (f : Fields) (h : f.isSvc = false) :
    decodeFields forms hyp f = decodeFields decodeHyp hyp f := by
  cases hyp with
  | true => simp [decodeFields, h]
  | false => simp only [decodeFields, decodeNative, decodeCoproc, h, Bool.false_eq_true, if_false]

end Sys2Proof.Machine
end

