-- ==== Sys2Proof/Laws/State.lean ====
section
/-! SUPPORT. One lemma per field per update of State, so that no later proof unfolds an update. -/

namespace Sys2Proof.Machine

@[simp] theorem State.setReg_pc (s : State) (p : PReg) (v : Word) : (s.setReg p v).pc = s.pc := rfl
@[simp] theorem State.setReg_cpsr (s : State) (p : PReg) (v : Word) : (s.setReg p v).cpsr = s.cpsr := rfl
@[simp] theorem State.setReg_spsr (s : State) (p : PReg) (v : Word) : (s.setReg p v).spsr = s.spsr := rfl
@[simp] theorem State.setReg_halted (s : State) (p : PReg) (v : Word) : (s.setReg p v).halted = s.halted := rfl
@[simp] theorem State.setReg_mem (s : State) (p : PReg) (v : Word) : (s.setReg p v).mem = s.mem := rfl
@[simp] theorem State.setReg_port (s : State) (p : PReg) (v : Word) : (s.setReg p v).port = s.port := rfl
@[simp] theorem State.setReg_coprocs (s : State) (p : PReg) (v : Word) : (s.setReg p v).coprocs = s.coprocs := rfl
@[simp] theorem State.setReg_ttblMinPageSize (s : State) (p : PReg) (v : Word) : (s.setReg p v).ttblMinPageSize = s.ttblMinPageSize := rfl
@[simp] theorem State.setReg_hypLayout (s : State) (p : PReg) (v : Word) : (s.setReg p v).hypLayout = s.hypLayout := rfl
@[simp] theorem State.setReg_hyp (s : State) (p : PReg) (v : Word) : (s.setReg p v).hyp = s.hyp := rfl
@[simp] theorem State.setReg_envTick (s : State) (p : PReg) (v : Word) : (s.setReg p v).envTick = s.envTick := rfl
@[simp] theorem State.setReg_events (s : State) (p : PReg) (v : Word) : (s.setReg p v).events = s.events := rfl
@[simp] theorem State.setReg_result (s : State) (p : PReg) (v : Word) : (s.setReg p v).result = s.result := rfl

@[simp] theorem State.emit_regs (s : State) (e : Event) : (s.emit e).regs = s.regs := rfl
@[simp] theorem State.emit_pc (s : State) (e : Event) : (s.emit e).pc = s.pc := rfl
@[simp] theorem State.emit_cpsr (s : State) (e : Event) : (s.emit e).cpsr = s.cpsr := rfl
@[simp] theorem State.emit_spsr (s : State) (e : Event) : (s.emit e).spsr = s.spsr := rfl
@[simp] theorem State.emit_halted (s : State) (e : Event) : (s.emit e).halted = s.halted := rfl
@[simp] theorem State.emit_mem (s : State) (e : Event) : (s.emit e).mem = s.mem := rfl
@[simp] theorem State.emit_port (s : State) (e : Event) : (s.emit e).port = s.port := rfl
@[simp] theorem State.emit_coprocs (s : State) (e : Event) : (s.emit e).coprocs = s.coprocs := rfl
@[simp] theorem State.emit_ttblMinPageSize (s : State) (e : Event) : (s.emit e).ttblMinPageSize = s.ttblMinPageSize := rfl
@[simp] theorem State.emit_hypLayout (s : State) (e : Event) : (s.emit e).hypLayout = s.hypLayout := rfl
@[simp] theorem State.emit_hyp (s : State) (e : Event) : (s.emit e).hyp = s.hyp := rfl
@[simp] theorem State.emit_envTick (s : State) (e : Event) : (s.emit e).envTick = s.envTick := rfl
@[simp] theorem State.emit_events (s : State) (e : Event) : (s.emit e).events = s.events ++ [e] := rfl
@[simp] theorem State.emit_result (s : State) (e : Event) : (s.emit e).result = s.result := rfl

@[simp] theorem State.emitAll_regs (s : State) (es : List Event) : (s.emitAll es).regs = s.regs := rfl
@[simp] theorem State.emitAll_pc (s : State) (es : List Event) : (s.emitAll es).pc = s.pc := rfl
@[simp] theorem State.emitAll_cpsr (s : State) (es : List Event) : (s.emitAll es).cpsr = s.cpsr := rfl
@[simp] theorem State.emitAll_spsr (s : State) (es : List Event) : (s.emitAll es).spsr = s.spsr := rfl
@[simp] theorem State.emitAll_halted (s : State) (es : List Event) : (s.emitAll es).halted = s.halted := rfl
@[simp] theorem State.emitAll_mem (s : State) (es : List Event) : (s.emitAll es).mem = s.mem := rfl
@[simp] theorem State.emitAll_port (s : State) (es : List Event) : (s.emitAll es).port = s.port := rfl
@[simp] theorem State.emitAll_coprocs (s : State) (es : List Event) : (s.emitAll es).coprocs = s.coprocs := rfl
@[simp] theorem State.emitAll_ttblMinPageSize (s : State) (es : List Event) : (s.emitAll es).ttblMinPageSize = s.ttblMinPageSize := rfl
@[simp] theorem State.emitAll_hypLayout (s : State) (es : List Event) : (s.emitAll es).hypLayout = s.hypLayout := rfl
@[simp] theorem State.emitAll_hyp (s : State) (es : List Event) : (s.emitAll es).hyp = s.hyp := rfl
@[simp] theorem State.emitAll_envTick (s : State) (es : List Event) : (s.emitAll es).envTick = s.envTick := rfl
@[simp] theorem State.emitAll_events (s : State) (es : List Event) : (s.emitAll es).events = s.events ++ es := rfl
@[simp] theorem State.emitAll_result (s : State) (es : List Event) : (s.emitAll es).result = s.result := rfl

@[simp] theorem State.called_regs (s : State) (e : Event) : (s.called e).regs = s.regs := rfl
@[simp] theorem State.called_pc (s : State) (e : Event) : (s.called e).pc = s.pc := rfl
@[simp] theorem State.called_cpsr (s : State) (e : Event) : (s.called e).cpsr = s.cpsr := rfl
@[simp] theorem State.called_spsr (s : State) (e : Event) : (s.called e).spsr = s.spsr := rfl
@[simp] theorem State.called_halted (s : State) (e : Event) : (s.called e).halted = s.halted := rfl
@[simp] theorem State.called_mem (s : State) (e : Event) : (s.called e).mem = s.mem := rfl
@[simp] theorem State.called_port (s : State) (e : Event) : (s.called e).port = s.port := rfl
@[simp] theorem State.called_coprocs (s : State) (e : Event) : (s.called e).coprocs = s.coprocs := rfl
@[simp] theorem State.called_ttblMinPageSize (s : State) (e : Event) : (s.called e).ttblMinPageSize = s.ttblMinPageSize := rfl
@[simp] theorem State.called_hypLayout (s : State) (e : Event) : (s.called e).hypLayout = s.hypLayout := rfl
@[simp] theorem State.called_hyp (s : State) (e : Event) : (s.called e).hyp = s.hyp := rfl
@[simp] theorem State.called_envTick (s : State) (e : Event) : (s.called e).envTick = s.envTick + 1 := rfl
@[simp] theorem State.called_events (s : State) (e : Event) : (s.called e).events = s.events ++ [e] := rfl
@[simp] theorem State.called_result (s : State) (e : Event) : (s.called e).result = s.result := rfl

@[simp] theorem State.begin_regs (s : State) : (s.begin).regs = s.regs := rfl
@[simp] theorem State.begin_pc (s : State) : (s.begin).pc = s.pc := rfl
@[simp] theorem State.begin_cpsr (s : State) : (s.begin).cpsr = s.cpsr := rfl
@[simp] theorem State.begin_spsr (s : State) : (s.begin).spsr = s.spsr := rfl
@[simp] theorem State.begin_halted (s : State) : (s.begin).halted = s.halted := rfl
@[simp] theorem State.begin_mem (s : State) : (s.begin).mem = s.mem := rfl
@[simp] theorem State.begin_port (s : State) : (s.begin).port = s.port := rfl
@[simp] theorem State.begin_coprocs (s : State) : (s.begin).coprocs = s.coprocs := rfl
@[simp] theorem State.begin_ttblMinPageSize (s : State) : (s.begin).ttblMinPageSize = s.ttblMinPageSize := rfl
@[simp] theorem State.begin_hypLayout (s : State) : (s.begin).hypLayout = s.hypLayout := rfl
@[simp] theorem State.begin_hyp (s : State) : (s.begin).hyp = s.hyp := rfl
@[simp] theorem State.begin_envTick (s : State) : (s.begin).envTick = s.envTick := rfl
@[simp] theorem State.begin_events (s : State) : (s.begin).events = [] := rfl
@[simp] theorem State.begin_result (s : State) : (s.begin).result = none := rfl

@[simp] theorem State.placeWord_regs (s : State) (w : Word) : (s.placeWord w).regs = s.regs := rfl
@[simp] theorem State.placeWord_pc (s : State) (w : Word) : (s.placeWord w).pc = s.pc := rfl
@[simp] theorem State.placeWord_cpsr (s : State) (w : Word) : (s.placeWord w).cpsr = s.cpsr := rfl
@[simp] theorem State.placeWord_spsr (s : State) (w : Word) : (s.placeWord w).spsr = s.spsr := rfl
@[simp] theorem State.placeWord_halted (s : State) (w : Word) : (s.placeWord w).halted = s.halted := rfl
@[simp] theorem State.placeWord_mem (s : State) (w : Word) : (s.placeWord w).mem = s.mem.write32 s.pc w := rfl
@[simp] theorem State.placeWord_port (s : State) (w : Word) : (s.placeWord w).port = s.port := rfl
@[simp] theorem State.placeWord_coprocs (s : State) (w : Word) : (s.placeWord w).coprocs = s.coprocs := rfl
@[simp] theorem State.placeWord_ttblMinPageSize (s : State) (w : Word) : (s.placeWord w).ttblMinPageSize = s.ttblMinPageSize := rfl
@[simp] theorem State.placeWord_hypLayout (s : State) (w : Word) : (s.placeWord w).hypLayout = .h0 := rfl
@[simp] theorem State.placeWord_hyp (s : State) (w : Word) : (s.placeWord w).hyp = false := rfl
@[simp] theorem State.placeWord_envTick (s : State) (w : Word) : (s.placeWord w).envTick = s.envTick := rfl
@[simp] theorem State.placeWord_events (s : State) (w : Word) : (s.placeWord w).events = s.events := rfl
@[simp] theorem State.placeWord_result (s : State) (w : Word) : (s.placeWord w).result = s.result := rfl

@[simp] theorem State.emitRange_regs (s : State) (a : Word) (l : BitVec 16) : (s.emitRange a l).regs = s.regs := rfl
@[simp] theorem State.emitRange_pc (s : State) (a : Word) (l : BitVec 16) : (s.emitRange a l).pc = s.pc := rfl
@[simp] theorem State.emitRange_cpsr (s : State) (a : Word) (l : BitVec 16) : (s.emitRange a l).cpsr = s.cpsr := rfl
@[simp] theorem State.emitRange_spsr (s : State) (a : Word) (l : BitVec 16) : (s.emitRange a l).spsr = s.spsr := rfl
@[simp] theorem State.emitRange_halted (s : State) (a : Word) (l : BitVec 16) : (s.emitRange a l).halted = s.halted := rfl
@[simp] theorem State.emitRange_mem (s : State) (a : Word) (l : BitVec 16) : (s.emitRange a l).mem = s.mem := rfl
@[simp] theorem State.emitRange_port (s : State) (a : Word) (l : BitVec 16) : (s.emitRange a l).port = s.port := rfl
@[simp] theorem State.emitRange_coprocs (s : State) (a : Word) (l : BitVec 16) : (s.emitRange a l).coprocs = s.coprocs := rfl
@[simp] theorem State.emitRange_ttblMinPageSize (s : State) (a : Word) (l : BitVec 16) : (s.emitRange a l).ttblMinPageSize = s.ttblMinPageSize := rfl
@[simp] theorem State.emitRange_hypLayout (s : State) (a : Word) (l : BitVec 16) : (s.emitRange a l).hypLayout = s.hypLayout := rfl
@[simp] theorem State.emitRange_hyp (s : State) (a : Word) (l : BitVec 16) : (s.emitRange a l).hyp = s.hyp := rfl
@[simp] theorem State.emitRange_envTick (s : State) (a : Word) (l : BitVec 16) : (s.emitRange a l).envTick = s.envTick := rfl
@[simp] theorem State.emitRange_events (s : State) (a : Word) (l : BitVec 16) : (s.emitRange a l).events = s.events ++ rangeEvents s.ttblMinPageSize a (blockLength l) := rfl
@[simp] theorem State.emitRange_result (s : State) (a : Word) (l : BitVec 16) : (s.emitRange a l).result = s.result := rfl

@[simp] theorem State.setXm_pc (s : State) (m : Mode) (n : RegIdx) (v : Word) : (s.setXm m n v).pc = s.pc := by unfold State.setXm; split <;> rfl
@[simp] theorem State.setXm_cpsr (s : State) (m : Mode) (n : RegIdx) (v : Word) : (s.setXm m n v).cpsr = s.cpsr := by unfold State.setXm; split <;> rfl
@[simp] theorem State.setXm_spsr (s : State) (m : Mode) (n : RegIdx) (v : Word) : (s.setXm m n v).spsr = s.spsr := by unfold State.setXm; split <;> rfl
@[simp] theorem State.setXm_halted (s : State) (m : Mode) (n : RegIdx) (v : Word) : (s.setXm m n v).halted = s.halted := by unfold State.setXm; split <;> rfl
@[simp] theorem State.setXm_mem (s : State) (m : Mode) (n : RegIdx) (v : Word) : (s.setXm m n v).mem = s.mem := by unfold State.setXm; split <;> rfl
@[simp] theorem State.setXm_port (s : State) (m : Mode) (n : RegIdx) (v : Word) : (s.setXm m n v).port = s.port := by unfold State.setXm; split <;> rfl
@[simp] theorem State.setXm_coprocs (s : State) (m : Mode) (n : RegIdx) (v : Word) : (s.setXm m n v).coprocs = s.coprocs := by unfold State.setXm; split <;> rfl
@[simp] theorem State.setXm_ttblMinPageSize (s : State) (m : Mode) (n : RegIdx) (v : Word) : (s.setXm m n v).ttblMinPageSize = s.ttblMinPageSize := by unfold State.setXm; split <;> rfl
@[simp] theorem State.setXm_hypLayout (s : State) (m : Mode) (n : RegIdx) (v : Word) : (s.setXm m n v).hypLayout = s.hypLayout := by unfold State.setXm; split <;> rfl
@[simp] theorem State.setXm_hyp (s : State) (m : Mode) (n : RegIdx) (v : Word) : (s.setXm m n v).hyp = s.hyp := by unfold State.setXm; split <;> rfl
@[simp] theorem State.setXm_envTick (s : State) (m : Mode) (n : RegIdx) (v : Word) : (s.setXm m n v).envTick = s.envTick := by unfold State.setXm; split <;> rfl
@[simp] theorem State.setXm_events (s : State) (m : Mode) (n : RegIdx) (v : Word) : (s.setXm m n v).events = s.events := by unfold State.setXm; split <;> rfl
@[simp] theorem State.setXm_result (s : State) (m : Mode) (n : RegIdx) (v : Word) : (s.setXm m n v).result = s.result := by unfold State.setXm; split <;> rfl

@[simp] theorem State.setX_pc (s : State) (n : RegIdx) (v : Word) : (s.setX n v).pc = s.pc := by simp [State.setX]
@[simp] theorem State.setX_cpsr (s : State) (n : RegIdx) (v : Word) : (s.setX n v).cpsr = s.cpsr := by simp [State.setX]
@[simp] theorem State.setX_spsr (s : State) (n : RegIdx) (v : Word) : (s.setX n v).spsr = s.spsr := by simp [State.setX]
@[simp] theorem State.setX_halted (s : State) (n : RegIdx) (v : Word) : (s.setX n v).halted = s.halted := by simp [State.setX]
@[simp] theorem State.setX_mem (s : State) (n : RegIdx) (v : Word) : (s.setX n v).mem = s.mem := by simp [State.setX]
@[simp] theorem State.setX_port (s : State) (n : RegIdx) (v : Word) : (s.setX n v).port = s.port := by simp [State.setX]
@[simp] theorem State.setX_coprocs (s : State) (n : RegIdx) (v : Word) : (s.setX n v).coprocs = s.coprocs := by simp [State.setX]
@[simp] theorem State.setX_ttblMinPageSize (s : State) (n : RegIdx) (v : Word) : (s.setX n v).ttblMinPageSize = s.ttblMinPageSize := by simp [State.setX]
@[simp] theorem State.setX_hypLayout (s : State) (n : RegIdx) (v : Word) : (s.setX n v).hypLayout = s.hypLayout := by simp [State.setX]
@[simp] theorem State.setX_hyp (s : State) (n : RegIdx) (v : Word) : (s.setX n v).hyp = s.hyp := by simp [State.setX]
@[simp] theorem State.setX_envTick (s : State) (n : RegIdx) (v : Word) : (s.setX n v).envTick = s.envTick := by simp [State.setX]
@[simp] theorem State.setX_events (s : State) (n : RegIdx) (v : Word) : (s.setX n v).events = s.events := by simp [State.setX]
@[simp] theorem State.setX_result (s : State) (n : RegIdx) (v : Word) : (s.setX n v).result = s.result := by simp [State.setX]

@[simp] theorem State.writeBack_pc (s : State) (b : Bool) (n : RegIdx) (v : Word) : (s.writeBack b n v).pc = s.pc := by unfold State.writeBack; split <;> simp
@[simp] theorem State.writeBack_cpsr (s : State) (b : Bool) (n : RegIdx) (v : Word) : (s.writeBack b n v).cpsr = s.cpsr := by unfold State.writeBack; split <;> simp
@[simp] theorem State.writeBack_spsr (s : State) (b : Bool) (n : RegIdx) (v : Word) : (s.writeBack b n v).spsr = s.spsr := by unfold State.writeBack; split <;> simp
@[simp] theorem State.writeBack_halted (s : State) (b : Bool) (n : RegIdx) (v : Word) : (s.writeBack b n v).halted = s.halted := by unfold State.writeBack; split <;> simp
@[simp] theorem State.writeBack_mem (s : State) (b : Bool) (n : RegIdx) (v : Word) : (s.writeBack b n v).mem = s.mem := by unfold State.writeBack; split <;> simp
@[simp] theorem State.writeBack_port (s : State) (b : Bool) (n : RegIdx) (v : Word) : (s.writeBack b n v).port = s.port := by unfold State.writeBack; split <;> simp
@[simp] theorem State.writeBack_coprocs (s : State) (b : Bool) (n : RegIdx) (v : Word) : (s.writeBack b n v).coprocs = s.coprocs := by unfold State.writeBack; split <;> simp
@[simp] theorem State.writeBack_ttblMinPageSize (s : State) (b : Bool) (n : RegIdx) (v : Word) : (s.writeBack b n v).ttblMinPageSize = s.ttblMinPageSize := by unfold State.writeBack; split <;> simp
@[simp] theorem State.writeBack_hypLayout (s : State) (b : Bool) (n : RegIdx) (v : Word) : (s.writeBack b n v).hypLayout = s.hypLayout := by unfold State.writeBack; split <;> simp
@[simp] theorem State.writeBack_hyp (s : State) (b : Bool) (n : RegIdx) (v : Word) : (s.writeBack b n v).hyp = s.hyp := by unfold State.writeBack; split <;> simp
@[simp] theorem State.writeBack_envTick (s : State) (b : Bool) (n : RegIdx) (v : Word) : (s.writeBack b n v).envTick = s.envTick := by unfold State.writeBack; split <;> simp
@[simp] theorem State.writeBack_events (s : State) (b : Bool) (n : RegIdx) (v : Word) : (s.writeBack b n v).events = s.events := by unfold State.writeBack; split <;> simp
@[simp] theorem State.writeBack_result (s : State) (b : Bool) (n : RegIdx) (v : Word) : (s.writeBack b n v).result = s.result := by unfold State.writeBack; split <;> simp

@[simp] theorem State.setSpsrOf_regs (s : State) (m : Mode) (v : Word) : (s.setSpsrOf m v).regs = s.regs := by cases m <;> rfl
@[simp] theorem State.setSpsrOf_pc (s : State) (m : Mode) (v : Word) : (s.setSpsrOf m v).pc = s.pc := by cases m <;> rfl
@[simp] theorem State.setSpsrOf_cpsr (s : State) (m : Mode) (v : Word) : (s.setSpsrOf m v).cpsr = s.cpsr := by cases m <;> rfl
@[simp] theorem State.setSpsrOf_halted (s : State) (m : Mode) (v : Word) : (s.setSpsrOf m v).halted = s.halted := by cases m <;> rfl
@[simp] theorem State.setSpsrOf_mem (s : State) (m : Mode) (v : Word) : (s.setSpsrOf m v).mem = s.mem := by cases m <;> rfl
@[simp] theorem State.setSpsrOf_port (s : State) (m : Mode) (v : Word) : (s.setSpsrOf m v).port = s.port := by cases m <;> rfl
@[simp] theorem State.setSpsrOf_coprocs (s : State) (m : Mode) (v : Word) : (s.setSpsrOf m v).coprocs = s.coprocs := by cases m <;> rfl
@[simp] theorem State.setSpsrOf_ttblMinPageSize (s : State) (m : Mode) (v : Word) : (s.setSpsrOf m v).ttblMinPageSize = s.ttblMinPageSize := by cases m <;> rfl
@[simp] theorem State.setSpsrOf_hypLayout (s : State) (m : Mode) (v : Word) : (s.setSpsrOf m v).hypLayout = s.hypLayout := by cases m <;> rfl
@[simp] theorem State.setSpsrOf_hyp (s : State) (m : Mode) (v : Word) : (s.setSpsrOf m v).hyp = s.hyp := by cases m <;> rfl
@[simp] theorem State.setSpsrOf_envTick (s : State) (m : Mode) (v : Word) : (s.setSpsrOf m v).envTick = s.envTick := by cases m <;> rfl
@[simp] theorem State.setSpsrOf_events (s : State) (m : Mode) (v : Word) : (s.setSpsrOf m v).events = s.events := by cases m <;> rfl
@[simp] theorem State.setSpsrOf_result (s : State) (m : Mode) (v : Word) : (s.setSpsrOf m v).result = s.result := by cases m <;> rfl

@[simp] theorem State.setCopUnit_regs (s : State) (n : BitVec 4) (u : CopUnit) : (s.setCopUnit n u).regs = s.regs := by unfold State.setCopUnit; split <;> rfl
@[simp] theorem State.setCopUnit_pc (s : State) (n : BitVec 4) (u : CopUnit) : (s.setCopUnit n u).pc = s.pc := by unfold State.setCopUnit; split <;> rfl
@[simp] theorem State.setCopUnit_cpsr (s : State) (n : BitVec 4) (u : CopUnit) : (s.setCopUnit n u).cpsr = s.cpsr := by unfold State.setCopUnit; split <;> rfl
@[simp] theorem State.setCopUnit_spsr (s : State) (n : BitVec 4) (u : CopUnit) : (s.setCopUnit n u).spsr = s.spsr := by unfold State.setCopUnit; split <;> rfl
@[simp] theorem State.setCopUnit_halted (s : State) (n : BitVec 4) (u : CopUnit) : (s.setCopUnit n u).halted = s.halted := by unfold State.setCopUnit; split <;> rfl
@[simp] theorem State.setCopUnit_mem (s : State) (n : BitVec 4) (u : CopUnit) : (s.setCopUnit n u).mem = s.mem := by unfold State.setCopUnit; split <;> rfl
@[simp] theorem State.setCopUnit_port (s : State) (n : BitVec 4) (u : CopUnit) : (s.setCopUnit n u).port = s.port := by unfold State.setCopUnit; split <;> rfl
@[simp] theorem State.setCopUnit_ttblMinPageSize (s : State) (n : BitVec 4) (u : CopUnit) : (s.setCopUnit n u).ttblMinPageSize = s.ttblMinPageSize := by unfold State.setCopUnit; split <;> rfl
@[simp] theorem State.setCopUnit_hypLayout (s : State) (n : BitVec 4) (u : CopUnit) : (s.setCopUnit n u).hypLayout = s.hypLayout := by unfold State.setCopUnit; split <;> rfl
@[simp] theorem State.setCopUnit_hyp (s : State) (n : BitVec 4) (u : CopUnit) : (s.setCopUnit n u).hyp = s.hyp := by unfold State.setCopUnit; split <;> rfl
@[simp] theorem State.setCopUnit_envTick (s : State) (n : BitVec 4) (u : CopUnit) : (s.setCopUnit n u).envTick = s.envTick := by unfold State.setCopUnit; split <;> rfl
@[simp] theorem State.setCopUnit_events (s : State) (n : BitVec 4) (u : CopUnit) : (s.setCopUnit n u).events = s.events := by unfold State.setCopUnit; split <;> rfl
@[simp] theorem State.setCopUnit_result (s : State) (n : BitVec 4) (u : CopUnit) : (s.setCopUnit n u).result = s.result := by unfold State.setCopUnit; split <;> rfl

/-! ### Registers -/

theorem pregIdx_injective : ∀ p q : PReg, pregIdx p = pregIdx q → p = q := by
  intro p q; cases p <;> cases q <;> first | (intro _; rfl) | (intro h; exact absurd h (by decide))

@[simp] theorem State.reg_setReg_self (s : State) (p : PReg) (v : Word) : (s.setReg p v).reg p = v := by
  simp [State.reg, State.setReg]

theorem State.reg_setReg_ne (s : State) {p q : PReg} (v : Word) (h : q ≠ p) : (s.setReg p v).reg q = s.reg q := by
  have hne : (pregIdx p).val ≠ (pregIdx q).val := fun e => h (pregIdx_injective _ _ (Fin.ext e)).symm
  simp [State.reg, State.setReg, Vector.getElem_set_ne _ _ hne]

/-- Writing a register of a mode's bank leaves every other physical register. -/
theorem State.reg_setXm_ne (s : State) (m : Mode) (n : RegIdx) (v : Word) {q : PReg} (h : bank m n ≠ some q) :
    (s.setXm m n v).reg q = s.reg q := by
  unfold State.setXm
  split
  · rename_i p hp
    exact s.reg_setReg_ne v (fun e => h (by rw [hp, e]))
  · rfl

/-- Writing a register of a mode's bank puts the value in the physical register it names. -/
theorem State.reg_setXm_self (s : State) (m : Mode) (n : RegIdx) (v : Word) {p : PReg} (h : bank m n = some p) :
    (s.setXm m n v).reg p = v := by
  simp [State.setXm, h]

/-- Index 15 names no physical register, and every other index names one (R21). -/
theorem bank_eq_none (m : Mode) (n : RegIdx) : bank m n = none ↔ n = 15#4 := by
  cases m <;> revert n <;> decide

@[simp] theorem State.mode_setXm (s : State) (m : Mode) (n : RegIdx) (v : Word) : (s.setXm m n v).mode = s.mode := by
  simp [State.mode]

@[simp] theorem State.mode_setX (s : State) (n : RegIdx) (v : Word) : (s.setX n v).mode = s.mode := by
  simp [State.mode]

@[simp] theorem State.mode_writeBack (s : State) (b : Bool) (n : RegIdx) (v : Word) : (s.writeBack b n v).mode = s.mode := by
  simp [State.mode]

@[simp] theorem State.mode_called (s : State) (e : Event) : (s.called e).mode = s.mode := rfl

@[simp] theorem State.mode_begin (s : State) : s.begin.mode = s.mode := rfl

/-- A register index other than 15 reads back what was written to it (R22). -/
theorem State.x_setX_self (s : State) {n : RegIdx} (v : Word) (h : n ≠ 15#4) : (s.setX n v).x n = v := by
  cases hb : bank s.mode n with
  | none => exact absurd ((bank_eq_none _ _).1 hb) h
  | some p => simp [State.x, State.xm, State.setX, hb, State.reg_setXm_self]

end Sys2Proof.Machine
end

