-- ==== Sys2Proof/Laws/Ops.lean ====
section
/-! SUPPORT. One lemma per shared operation that says once what it can answer: cite it instead of unfolding the operation. -/

namespace Sys2Proof.Machine

/-! ### Refusals and the condition -/

/-- The refusals of an instruction either fire, one of them, or leave its work. -/
theorem refusing_cases (s : State) (l : List (Bool × Reason)) (k : Out) :
    (∃ why, (true, why) ∈ l ∧ refusing s l k = refuse s why) ∨ ((∀ p ∈ l, p.1 = false) ∧ refusing s l k = k) := by
  induction l with
  | nil => exact .inr ⟨by simp, rfl⟩
  | cons p rest ih =>
    obtain ⟨hit, why⟩ := p
    cases hit with
    | true => exact .inl ⟨why, by simp, rfl⟩
    | false =>
      obtain ⟨w, hw, h⟩ | ⟨h1, h2⟩ := ih
      · exact .inl ⟨w, by simp [hw], h⟩
      · exact .inr ⟨by simpa using h1, h2⟩

/-- Where no refusal fires the work is done. -/
theorem refusing_of_false (s : State) (l : List (Bool × Reason)) (k : Out) (h : ∀ p ∈ l, p.1 = false) : refusing s l k = k := by
  induction l with
  | nil => rfl
  | cons p rest ih =>
    obtain ⟨hit, why⟩ := p
    have h0 : hit = false := h (hit, why) (by simp)
    simp only [refusing, h0]
    exact ih (fun q hq => h q (by simp [hq]))

/-- A false condition only advances the PC (R421). -/
theorem gated_false (cond : Cond) (s : State) (k : Out) (h : condPassed cond s.cpsr = false) : gated cond s k = advance s := by
  simp [gated, h]

/-- A true condition lets the work be done. -/
theorem gated_true (cond : Cond) (s : State) (k : Out) (h : condPassed cond s.cpsr = true) : gated cond s k = k := by
  simp [gated, h]

/-! ### The memory port -/

/-- What `MemRead` can answer. -/
theorem memRead_cases (s : State) (a : Word) (n : Size) (u : Bool) :
    (s.portCode (s.readAccess a n u) = 0 ∧ memRead s a n u = .ok (s.portData (s.readAccess a n u)) (s.called (.read a n u))) ∨
    (s.portCode (s.readAccess a n u) ≠ 0 ∧
      memRead s a n u = .err (s.portCode (s.readAccess a n u)) (s.called (.read a n u))) := by
  unfold memRead
  by_cases h : s.portCode (s.readAccess a n u) = 0 <;> simp [h]

/-- What `MemWrite` can answer: a refused store writes nothing (R63). -/
theorem memWrite_cases (s : State) (a : Word) (n : Size) (v : Word) (u : Bool) :
    (s.portCode (s.writeAccess a n v u) = 0 ∧
      memWrite s a n v u = .ok () { s.called (.write a n (truncateTo n v) u) with mem := s.mem.writeSize a v n }) ∨
    (s.portCode (s.writeAccess a n v u) ≠ 0 ∧
      memWrite s a n v u = .err (s.portCode (s.writeAccess a n v u)) (s.called (.write a n (truncateTo n v) u))) := by
  unfold memWrite
  by_cases h : s.portCode (s.writeAccess a n v u) = 0 <;> simp [h]

/-- What `MemReadX` can answer. -/
theorem memReadX_cases (s : State) (a : Word) :
    (s.portCode (s.readExclusiveAccess a) = 0 ∧ memReadX s a = .ok (s.portData (s.readExclusiveAccess a)) (s.called (.readX a))) ∨
    (s.portCode (s.readExclusiveAccess a) ≠ 0 ∧ memReadX s a = .err (s.portCode (s.readExclusiveAccess a)) (s.called (.readX a))) := by
  unfold memReadX
  by_cases h : s.portCode (s.readExclusiveAccess a) = 0 <;> simp [h]

/-- What `MemWriteX` can answer: done, not exclusive with nothing written, or a code (R65). -/
theorem memWriteX_cases (s : State) (a v : Word) :
    (s.portCode (s.writeExclusiveAccess a v) = 0 ∧ s.portExclusiveDone (s.writeExclusiveAccess a v) = true ∧
      memWriteX s a v = .ok true { s.called (.writeX a v) with mem := s.mem.writeSize a v .word }) ∨
    (s.portCode (s.writeExclusiveAccess a v) = 0 ∧ s.portExclusiveDone (s.writeExclusiveAccess a v) = false ∧
      memWriteX s a v = .ok false (s.called (.writeX a v))) ∨
    (s.portCode (s.writeExclusiveAccess a v) ≠ 0 ∧
      memWriteX s a v = .err (s.portCode (s.writeExclusiveAccess a v)) (s.called (.writeX a v))) := by
  unfold memWriteX
  by_cases h : s.portCode (s.writeExclusiveAccess a v) = 0
  · cases hd : s.portExclusiveDone (s.writeExclusiveAccess a v) <;> simp [h, hd]
  · simp [h]

/-- The reference memory with no faulting address never returns a code (R81). -/
theorem portCode_reference (s : State) (a : PortAccess) {d : Bool} (h : s.port = .reference [] d) : s.portCode a = 0 := by
  simp [State.portCode, h, faultCode]

/-! ### What an operation leaves alone -/

/-- From `s` to `t` only registers, memory, coprocessor data, events and the tick change, and the canonical forms are kept. -/
structure Evolves (s t : State) : Prop where
  pc : t.pc = s.pc
  cpsr : t.cpsr = s.cpsr
  spsr : t.spsr = s.spsr
  halted : t.halted = s.halted
  port : t.port = s.port
  page : t.ttblMinPageSize = s.ttblMinPageSize
  layout : t.hypLayout = s.hypLayout
  hyp : t.hyp = s.hyp
  mem : s.mem.wf = true → t.mem.wf = true
  cops : (∀ n, copWf (s.cop n) = true) → ∀ n, copWf (t.cop n) = true

theorem Evolves.refl (s : State) : Evolves s s := ⟨rfl, rfl, rfl, rfl, rfl, rfl, rfl, rfl, id, id⟩

theorem Evolves.trans {s t r : State} (h : Evolves s t) (k : Evolves t r) : Evolves s r :=
  ⟨k.pc.trans h.pc, k.cpsr.trans h.cpsr, k.spsr.trans h.spsr, k.halted.trans h.halted, k.port.trans h.port, k.page.trans h.page,
    k.layout.trans h.layout, k.hyp.trans h.hyp, k.mem ∘ h.mem, k.cops ∘ h.cops⟩

theorem cop_congr {s t : State} (h : t.coprocs = s.coprocs) (n : BitVec 4) : t.cop n = s.cop n := by simp [State.cop, h]

theorem evolves_called (s : State) (e : Event) : Evolves s (s.called e) := ⟨rfl, rfl, rfl, rfl, rfl, rfl, rfl, rfl, id, id⟩

theorem evolves_emit (s : State) (e : Event) : Evolves s (s.emit e) := ⟨rfl, rfl, rfl, rfl, rfl, rfl, rfl, rfl, id, id⟩

theorem evolves_emitRange (s : State) (a : Word) (l : BitVec 16) : Evolves s (s.emitRange a l) :=
  ⟨rfl, rfl, rfl, rfl, rfl, rfl, rfl, rfl, id, id⟩

theorem evolves_setXm (s : State) (m : Mode) (n : RegIdx) (v : Word) : Evolves s (s.setXm m n v) :=
  ⟨by simp, by simp, by simp, by simp, by simp, by simp, by simp, by simp, by simp, by simp [State.cop]⟩

theorem evolves_setX (s : State) (n : RegIdx) (v : Word) : Evolves s (s.setX n v) := evolves_setXm s s.mode n v

theorem evolves_writeBack (s : State) (b : Bool) (n : RegIdx) (v : Word) : Evolves s (s.writeBack b n v) := by
  unfold State.writeBack
  split
  · exact evolves_setX s n v
  · exact .refl s

theorem evolves_memRead {s s' : State} {a v : Word} {n : Size} {u : Bool} (h : memRead s a n u = .ok v s') : Evolves s s' := by
  obtain ⟨_, e⟩ | ⟨_, e⟩ := memRead_cases s a n u <;> rw [e] at h <;> cases h
  exact evolves_called s _

theorem evolves_memWrite {s s' : State} {a v : Word} {n : Size} {u : Bool} (h : memWrite s a n v u = .ok () s') : Evolves s s' := by
  obtain ⟨_, e⟩ | ⟨_, e⟩ := memWrite_cases s a n v u <;> rw [e] at h <;> cases h
  exact ⟨rfl, rfl, rfl, rfl, rfl, rfl, rfl, rfl, Memory.wf_writeSize _ _ _ _, id⟩

theorem evolves_memRead_err {s s' : State} {a : Word} {n : Size} {u : Bool} {c : Nat} (h : memRead s a n u = .err c s') :
    Evolves s s' := by
  obtain ⟨_, e⟩ | ⟨_, e⟩ := memRead_cases s a n u <;> rw [e] at h <;> cases h
  exact evolves_called s _

theorem evolves_memWrite_err {s s' : State} {a v : Word} {n : Size} {u : Bool} {c : Nat} (h : memWrite s a n v u = .err c s') :
    Evolves s s' := by
  obtain ⟨_, e⟩ | ⟨_, e⟩ := memWrite_cases s a n v u <;> rw [e] at h <;> cases h
  exact evolves_called s _

/-- The state a port call answers with, whichever way. -/
def PortResult.state {α : Type} : PortResult α → State
  | .ok _ s => s
  | .err _ s => s

theorem evolves_memRead_state (s : State) (a : Word) (n : Size) (u : Bool) : Evolves s (memRead s a n u).state := by
  obtain ⟨_, e⟩ | ⟨_, e⟩ := memRead_cases s a n u <;> rw [e] <;> exact evolves_called s _

theorem evolves_memWrite_state (s : State) (a : Word) (n : Size) (v : Word) (u : Bool) : Evolves s (memWrite s a n v u).state := by
  obtain ⟨_, e⟩ | ⟨_, e⟩ := memWrite_cases s a n v u <;> rw [e]
  · exact ⟨rfl, rfl, rfl, rfl, rfl, rfl, rfl, rfl, Memory.wf_writeSize _ _ _ _, id⟩
  · exact evolves_called s _

theorem evolves_memReadX_state (s : State) (a : Word) : Evolves s (memReadX s a).state := by
  obtain ⟨_, e⟩ | ⟨_, e⟩ := memReadX_cases s a <;> rw [e] <;> exact evolves_called s _

theorem evolves_memWriteX_state (s : State) (a v : Word) : Evolves s (memWriteX s a v).state := by
  obtain ⟨_, _, e⟩ | ⟨_, _, e⟩ | ⟨_, e⟩ := memWriteX_cases s a v <;> rw [e]
  · exact ⟨rfl, rfl, rfl, rfl, rfl, rfl, rfl, rfl, Memory.wf_writeSize _ _ _ .word, id⟩
  · exact evolves_called s _
  · exact evolves_called s _

/-! ### The loops of the block transfers -/

/-- The loop of a load, whichever way it ends. -/
theorem evolves_loadRegisters (m : Mode) (l : List RegIdx) (a : Word) (s : State) : Evolves s (loadRegisters m l a s).state := by
  induction l generalizing a s with
  | nil => exact .refl s
  | cons n rest ih =>
    unfold loadRegisters
    have h0 := evolves_memRead_state s a .word false
    split
    · rename_i v s' h
      rw [h] at h0
      exact h0.trans ((evolves_setXm s' m n v).trans (ih _ _))
    · rename_i c s' h
      rw [h] at h0
      exact h0

/-- A load moves no byte of memory. -/
theorem loadRegisters_mem (m : Mode) (l : List RegIdx) (a : Word) (s : State) : (loadRegisters m l a s).state.mem = s.mem := by
  induction l generalizing a s with
  | nil => rfl
  | cons n rest ih =>
    unfold loadRegisters
    obtain ⟨_, e⟩ | ⟨_, e⟩ := memRead_cases s a .word false <;> rw [e]
    · exact (ih _ _).trans (by simp)
    · rfl

/-- The loop of a store, whichever way it ends. -/
theorem evolves_storeRegisters (m : Mode) (l : List RegIdx) (a : Word) (s : State) : Evolves s (storeRegisters m l a s).state := by
  induction l generalizing a s with
  | nil => exact .refl s
  | cons n rest ih =>
    unfold storeRegisters
    have h0 := evolves_memWrite_state s a .word (s.xm m n) false
    split
    · rename_i v s' h
      rw [h] at h0
      exact h0.trans (ih _ _)
    · rename_i c s' h
      rw [h] at h0
      exact h0

/-- A store changes no register. -/
theorem storeRegisters_regs (m : Mode) (l : List RegIdx) (a : Word) (s : State) : (storeRegisters m l a s).state.regs = s.regs := by
  induction l generalizing a s with
  | nil => rfl
  | cons n rest ih =>
    unfold storeRegisters
    obtain ⟨_, e⟩ | ⟨_, e⟩ := memWrite_cases s a .word (s.xm m n) false <;> rw [e]
    · exact (ih _ _).trans (by simp)
    · rfl

theorem evolves_storePc (l : BitVec 16) (a : Word) (s : State) : Evolves s (storePc l a s).state := by
  unfold storePc
  split
  · exact evolves_memWrite_state s a .word _ false
  · exact .refl s

/-! ### Coprocessor hooks -/

/-- Reading the registry after a change of one unit. -/
theorem cop_setCopUnit (s : State) (n k : BitVec 4) (u : CopUnit) :
    (s.setCopUnit n u).cop k = if k = n then (s.cop n).map (fun o => { o with unit := u }) else s.cop k := by
  unfold State.setCopUnit
  cases h : s.cop n with
  | none => by_cases hk : k = n <;> simp [hk, h]
  | some o =>
    by_cases hk : k = n
    · subst hk; simp [State.cop]
    · have : n.toNat ≠ k.toNat := fun e => hk (BitVec.eq_of_toNat_eq e.symm)
      simp [State.cop, hk, Vector.getElem_set_ne _ _ this]

/-- A change of one unit keeps the canonical forms when the new unit is canonical. -/
theorem evolves_setCopUnit (s : State) (n : BitVec 4) (u : CopUnit)
    (hu : ∀ o, s.cop n = some o → copWf (some o) = true → copWf (some { o with unit := u }) = true) : Evolves s (s.setCopUnit n u) := by
  refine ⟨by simp, by simp, by simp, by simp, by simp, by simp, by simp, by simp, by simp, fun hc k => ?_⟩
  rw [cop_setCopUnit]
  split
  · cases h : s.cop n with
    | none => rfl
    | some o => exact hu o h (h ▸ hc n)
  · exact hc k

/-- A call's event and tick leave the registry. -/
theorem copUnit_eq_reference {s : State} {n : BitVec 4} {r : RefCop} (h : s.copUnit n = .reference r) :
    ∃ hooks, s.cop n = some ⟨hooks, .reference r⟩ := by
  unfold State.copUnit at h
  split at h
  · rename_i o ho
    obtain ⟨hooks, u⟩ := o
    exact ⟨hooks, by simp_all⟩
  · cases h

/-- Writing a register of a reference coprocessor after a call. -/
theorem evolves_setReference {s : State} {n : BitVec 4} {r r' : RefCop} (e : Event) (h : s.copUnit n = .reference r)
    (hr : copWf (some ⟨⟨false, false, false, false, false, false, false, false, false⟩, .reference r⟩) = true →
      copWf (some ⟨⟨false, false, false, false, false, false, false, false, false⟩, .reference r'⟩) = true) :
    Evolves s ((s.called e).setCopUnit n (.reference r')) := by
  obtain ⟨hooks, hc⟩ := copUnit_eq_reference h
  refine (evolves_called s e).trans (evolves_setCopUnit _ n _ fun o ho hw => ?_)
  have : s.cop n = some o := ho
  rw [hc] at this
  cases this
  exact hr hw

theorem evolves_hookRead (s : State) (n : BitVec 4) (o1 o2 : BitVec 3) (cn cm : BitVec 4) : Evolves s (hookRead s n o1 o2 cn cm).2 := by
  unfold hookRead; split <;> exact evolves_called s _

theorem evolves_hookRead2 (s : State) (n o1 cm : BitVec 4) : Evolves s (hookRead2 s n o1 cm).2 := by
  unfold hookRead2; split <;> exact evolves_called s _

theorem evolves_hookWrite (s : State) (n : BitVec 4) (o1 o2 : BitVec 3) (cn cm : BitVec 4) (v : Word) :
    Evolves s (hookWrite s n o1 o2 cn cm v).2 := by
  unfold hookWrite
  split
  · rename_i r h
    refine evolves_setReference _ h fun hw => ?_
    simp only [copWf, Bool.and_eq_true] at hw ⊢
    exact ⟨cellsWf_write _ _ _ _ hw.1 (Nat.zero_le _) (BitVec.isLt _), hw.2⟩
  · exact evolves_called s _

theorem evolves_hookWrite2 (s : State) (n o1 cm : BitVec 4) (v w : Word) : Evolves s (hookWrite2 s n o1 cm v w).2 := by
  unfold hookWrite2
  split
  · rename_i r h
    refine evolves_setReference _ h fun hw => ?_
    simp only [copWf, Bool.and_eq_true] at hw ⊢
    exact ⟨hw.1, cellsWf_write _ _ _ _ hw.2 (Nat.zero_le _) (BitVec.isLt _)⟩
  · exact evolves_called s _

theorem evolves_hookDataProcess (s : State) (n o1 : BitVec 4) (o2 : BitVec 3) (cd cn cm : BitVec 4) :
    Evolves s (hookDataProcess s n o1 o2 cd cn cm).2 := by
  unfold hookDataProcess
  split
  · rename_i r h
    split
    · exact evolves_setReference _ h id
    · exact evolves_called s _
  · exact evolves_called s _

theorem evolves_hookAccept (s : State) (n : BitVec 4) (t : TransferArgs) : Evolves s (hookAccept s n t).2 := by
  unfold hookAccept; split <;> exact evolves_called s _

theorem evolves_hookDone (s : State) (n : BitVec 4) (t : TransferArgs) (k : Nat) : Evolves s (hookDone s n t k).2 := by
  unfold hookDone; split <;> exact evolves_called s _

theorem evolves_hookTransferRead (s : State) (n : BitVec 4) (t : TransferArgs) (k : Nat) : Evolves s (hookTransferRead s n t k).2 := by
  unfold hookTransferRead; split <;> exact evolves_called s _

theorem evolves_hookTransferWrite (s : State) (n : BitVec 4) (t : TransferArgs) (k : Nat) (v : Word) :
    Evolves s (hookTransferWrite s n t k v) := by
  unfold hookTransferWrite
  split
  · rename_i r h
    exact evolves_setReference _ h id
  · exact evolves_called s _

/-- What a loop that ends leaves alone. -/
def LoopResult.evolvesFrom (s : State) : LoopResult → Prop
  | .finished t => Evolves s t
  | .faulted _ t => Evolves s t
  | .endless => True

theorem LoopResult.evolvesFrom_trans {s t : State} {r : LoopResult} (h : Evolves s t) (k : r.evolvesFrom t) : r.evolvesFrom s := by
  cases r
  · exact h.trans k
  · exact h.trans k
  · trivial

theorem evolves_ldcLoop (n : BitVec 4) (t : TransferArgs) (left k : Nat) (a : Word) (s : State) :
    (ldcLoop n t left k a s).evolvesFrom s := by
  induction left generalizing k a s with
  | zero =>
    unfold ldcLoop
    split
    · exact evolves_hookDone s n t k
    · trivial
  | succ left ih =>
    unfold ldcLoop
    have h0 := evolves_hookDone s n t k
    split
    · exact h0
    · have h1 := evolves_memRead_state (hookDone s n t k).2 a .word false
      split
      · rename_i v s' h
        rw [h] at h1
        exact LoopResult.evolvesFrom_trans (h0.trans (h1.trans (evolves_hookTransferWrite s' n t k v))) (ih _ _ _)
      · rename_i c s' h
        rw [h] at h1
        exact h0.trans h1

theorem evolves_stcLoop (n : BitVec 4) (t : TransferArgs) (left k : Nat) (a : Word) (s : State) :
    (stcLoop n t left k a s).evolvesFrom s := by
  induction left generalizing k a s with
  | zero =>
    unfold stcLoop
    split
    · exact evolves_hookDone s n t k
    · trivial
  | succ left ih =>
    unfold stcLoop
    have h0 := evolves_hookDone s n t k
    split
    · exact h0
    · have hr := evolves_hookTransferRead (hookDone s n t k).2 n t k
      have h1 := evolves_memWrite_state (hookTransferRead (hookDone s n t k).2 n t k).2 a .word
        (hookTransferRead (hookDone s n t k).2 n t k).1 false
      dsimp only
      split
      · rename_i v s' h
        rw [h] at h1
        exact LoopResult.evolvesFrom_trans (h0.trans (hr.trans h1)) (ih _ _ _)
      · rename_i c s' h
        rw [h] at h1
        exact h0.trans (hr.trans h1)

/-! ### Status registers -/

/-- What `CpsrUpdate` can answer: a legal CPSR and nothing else changed, or nothing (R33). -/
theorem cpsrUpdate_some {s t : State} {v m : Word} (h : s.cpsrUpdate v m = some t) :
    legalMode t.cpsr = true ∧ t = { s with cpsr := t.cpsr } := by
  simp only [State.cpsrUpdate] at h
  generalize (if s.mode = .usr then m &&& userWriteMask else m) = mask at h
  split at h
  · cases h; exact ⟨by assumption, rfl⟩
  · cases h

/-- A flag update leaves the mode field. -/
theorem legalMode_withFlags (psr : Word) (n z c v : Bool) : legalMode (withFlags psr n z c v) = legalMode psr := by
  have : modeField (withFlags psr n z c v) = modeField psr := by
    simp only [modeField, withFlags]
    apply BitVec.eq_of_getLsbD_eq
    intro i hi
    have h1 : i < 28 := by omega
    rw [BitVec.getLsbD_extractLsb', BitVec.getLsbD_extractLsb', BitVec.getLsbD_append]
    simp [hi, h1]
  simp [legalMode, this]

end Sys2Proof.Machine
end

