-- ==== Sys2Proof/Laws/PerInstr.lean ====
section
/-! SUPPORT. Statements for all instructions, one lemma per constructor of `Instr`. -/

namespace Sys2Proof.Laws

/-- The columns of an instruction's word start with its condition field (R91). -/
def CondField.Statement (i : Instr) : Prop := (encodeFields i).cond = i.cond

theorem CondField.andImmediate (cond : Cond) (sf : Bool) (rn : RegIdx) (rd : RegIdx) (imm12 : BitVec 12) :
    CondField.Statement (.andImmediate cond sf rn rd imm12) := rfl
theorem CondField.andRegister (cond : Cond) (sf : Bool) (rn : RegIdx) (rd : RegIdx) (imm5 : BitVec 5) (ty : BitVec 2) (rm : RegIdx) :
    CondField.Statement (.andRegister cond sf rn rd imm5 ty rm) := rfl
theorem CondField.eorImmediate (cond : Cond) (sf : Bool) (rn : RegIdx) (rd : RegIdx) (imm12 : BitVec 12) :
    CondField.Statement (.eorImmediate cond sf rn rd imm12) := rfl
theorem CondField.eorRegister (cond : Cond) (sf : Bool) (rn : RegIdx) (rd : RegIdx) (imm5 : BitVec 5) (ty : BitVec 2) (rm : RegIdx) :
    CondField.Statement (.eorRegister cond sf rn rd imm5 ty rm) := rfl
theorem CondField.subImmediate (cond : Cond) (sf : Bool) (rn : RegIdx) (rd : RegIdx) (imm12 : BitVec 12) :
    CondField.Statement (.subImmediate cond sf rn rd imm12) := rfl
theorem CondField.subRegister (cond : Cond) (sf : Bool) (rn : RegIdx) (rd : RegIdx) (imm5 : BitVec 5) (ty : BitVec 2) (rm : RegIdx) :
    CondField.Statement (.subRegister cond sf rn rd imm5 ty rm) := rfl
theorem CondField.rsbImmediate (cond : Cond) (sf : Bool) (rn : RegIdx) (rd : RegIdx) (imm12 : BitVec 12) :
    CondField.Statement (.rsbImmediate cond sf rn rd imm12) := rfl
theorem CondField.rsbRegister (cond : Cond) (sf : Bool) (rn : RegIdx) (rd : RegIdx) (imm5 : BitVec 5) (ty : BitVec 2) (rm : RegIdx) :
    CondField.Statement (.rsbRegister cond sf rn rd imm5 ty rm) := rfl
theorem CondField.addImmediate (cond : Cond) (sf : Bool) (rn : RegIdx) (rd : RegIdx) (imm12 : BitVec 12) :
    CondField.Statement (.addImmediate cond sf rn rd imm12) := rfl
theorem CondField.addRegister (cond : Cond) (sf : Bool) (rn : RegIdx) (rd : RegIdx) (imm5 : BitVec 5) (ty : BitVec 2) (rm : RegIdx) :
    CondField.Statement (.addRegister cond sf rn rd imm5 ty rm) := rfl
theorem CondField.adcImmediate (cond : Cond) (sf : Bool) (rn : RegIdx) (rd : RegIdx) (imm12 : BitVec 12) :
    CondField.Statement (.adcImmediate cond sf rn rd imm12) := rfl
theorem CondField.adcRegister (cond : Cond) (sf : Bool) (rn : RegIdx) (rd : RegIdx) (imm5 : BitVec 5) (ty : BitVec 2) (rm : RegIdx) :
    CondField.Statement (.adcRegister cond sf rn rd imm5 ty rm) := rfl
theorem CondField.sbcImmediate (cond : Cond) (sf : Bool) (rn : RegIdx) (rd : RegIdx) (imm12 : BitVec 12) :
    CondField.Statement (.sbcImmediate cond sf rn rd imm12) := rfl
theorem CondField.sbcRegister (cond : Cond) (sf : Bool) (rn : RegIdx) (rd : RegIdx) (imm5 : BitVec 5) (ty : BitVec 2) (rm : RegIdx) :
    CondField.Statement (.sbcRegister cond sf rn rd imm5 ty rm) := rfl
theorem CondField.rscImmediate (cond : Cond) (sf : Bool) (rn : RegIdx) (rd : RegIdx) (imm12 : BitVec 12) :
    CondField.Statement (.rscImmediate cond sf rn rd imm12) := rfl
theorem CondField.rscRegister (cond : Cond) (sf : Bool) (rn : RegIdx) (rd : RegIdx) (imm5 : BitVec 5) (ty : BitVec 2) (rm : RegIdx) :
    CondField.Statement (.rscRegister cond sf rn rd imm5 ty rm) := rfl
theorem CondField.orrImmediate (cond : Cond) (sf : Bool) (rn : RegIdx) (rd : RegIdx) (imm12 : BitVec 12) :
    CondField.Statement (.orrImmediate cond sf rn rd imm12) := rfl
theorem CondField.orrRegister (cond : Cond) (sf : Bool) (rn : RegIdx) (rd : RegIdx) (imm5 : BitVec 5) (ty : BitVec 2) (rm : RegIdx) :
    CondField.Statement (.orrRegister cond sf rn rd imm5 ty rm) := rfl
theorem CondField.movImmediate (cond : Cond) (sf : Bool) (rn : RegIdx) (rd : RegIdx) (imm12 : BitVec 12) :
    CondField.Statement (.movImmediate cond sf rn rd imm12) := rfl
theorem CondField.movRegister (cond : Cond) (sf : Bool) (rn : RegIdx) (rd : RegIdx) (imm5 : BitVec 5) (ty : BitVec 2) (rm : RegIdx) :
    CondField.Statement (.movRegister cond sf rn rd imm5 ty rm) := rfl
theorem CondField.bicImmediate (cond : Cond) (sf : Bool) (rn : RegIdx) (rd : RegIdx) (imm12 : BitVec 12) :
    CondField.Statement (.bicImmediate cond sf rn rd imm12) := rfl
theorem CondField.bicRegister (cond : Cond) (sf : Bool) (rn : RegIdx) (rd : RegIdx) (imm5 : BitVec 5) (ty : BitVec 2) (rm : RegIdx) :
    CondField.Statement (.bicRegister cond sf rn rd imm5 ty rm) := rfl
theorem CondField.mvnImmediate (cond : Cond) (sf : Bool) (rn : RegIdx) (rd : RegIdx) (imm12 : BitVec 12) :
    CondField.Statement (.mvnImmediate cond sf rn rd imm12) := rfl
theorem CondField.mvnRegister (cond : Cond) (sf : Bool) (rn : RegIdx) (rd : RegIdx) (imm5 : BitVec 5) (ty : BitVec 2) (rm : RegIdx) :
    CondField.Statement (.mvnRegister cond sf rn rd imm5 ty rm) := rfl
theorem CondField.movw (cond : Cond) (rd : RegIdx) (imm16 : BitVec 16) :
    CondField.Statement (.movw cond rd imm16) := rfl
theorem CondField.strhImmediate (cond : Cond) (idx : Indexing) (u : Bool) (rn : RegIdx) (rt : RegIdx) (imm8 : BitVec 8) :
    CondField.Statement (.strhImmediate cond idx u rn rt imm8) := rfl
theorem CondField.strhRegister (cond : Cond) (idx : Indexing) (u : Bool) (rn : RegIdx) (rt : RegIdx) (rm : RegIdx) :
    CondField.Statement (.strhRegister cond idx u rn rt rm) := rfl
theorem CondField.ldrhImmediate (cond : Cond) (idx : Indexing) (u : Bool) (rn : RegIdx) (rt : RegIdx) (imm8 : BitVec 8) :
    CondField.Statement (.ldrhImmediate cond idx u rn rt imm8) := rfl
theorem CondField.ldrhLiteral (cond : Cond) (idx : Indexing) (u : Bool) (rt : RegIdx) (imm8 : BitVec 8) :
    CondField.Statement (.ldrhLiteral cond idx u rt imm8) := rfl
theorem CondField.ldrhRegister (cond : Cond) (idx : Indexing) (u : Bool) (rn : RegIdx) (rt : RegIdx) (rm : RegIdx) :
    CondField.Statement (.ldrhRegister cond idx u rn rt rm) := rfl
theorem CondField.ldrdImmediate (cond : Cond) (idx : Indexing) (u : Bool) (rn : RegIdx) (rt : RegIdx) (imm8 : BitVec 8) :
    CondField.Statement (.ldrdImmediate cond idx u rn rt imm8) := rfl
theorem CondField.ldrdLiteral (cond : Cond) (idx : Indexing) (u : Bool) (rt : RegIdx) (imm8 : BitVec 8) :
    CondField.Statement (.ldrdLiteral cond idx u rt imm8) := rfl
theorem CondField.ldrdRegister (cond : Cond) (idx : Indexing) (u : Bool) (rn : RegIdx) (rt : RegIdx) (rm : RegIdx) :
    CondField.Statement (.ldrdRegister cond idx u rn rt rm) := rfl
theorem CondField.strdImmediate (cond : Cond) (idx : Indexing) (u : Bool) (rn : RegIdx) (rt : RegIdx) (imm8 : BitVec 8) :
    CondField.Statement (.strdImmediate cond idx u rn rt imm8) := rfl
theorem CondField.strdRegister (cond : Cond) (idx : Indexing) (u : Bool) (rn : RegIdx) (rt : RegIdx) (rm : RegIdx) :
    CondField.Statement (.strdRegister cond idx u rn rt rm) := rfl
theorem CondField.ldrsbImmediate (cond : Cond) (idx : Indexing) (u : Bool) (rn : RegIdx) (rt : RegIdx) (imm8 : BitVec 8) :
    CondField.Statement (.ldrsbImmediate cond idx u rn rt imm8) := rfl
theorem CondField.ldrsbLiteral (cond : Cond) (idx : Indexing) (u : Bool) (rt : RegIdx) (imm8 : BitVec 8) :
    CondField.Statement (.ldrsbLiteral cond idx u rt imm8) := rfl
theorem CondField.ldrsbRegister (cond : Cond) (idx : Indexing) (u : Bool) (rn : RegIdx) (rt : RegIdx) (rm : RegIdx) :
    CondField.Statement (.ldrsbRegister cond idx u rn rt rm) := rfl
theorem CondField.ldrshImmediate (cond : Cond) (idx : Indexing) (u : Bool) (rn : RegIdx) (rt : RegIdx) (imm8 : BitVec 8) :
    CondField.Statement (.ldrshImmediate cond idx u rn rt imm8) := rfl
theorem CondField.ldrshLiteral (cond : Cond) (idx : Indexing) (u : Bool) (rt : RegIdx) (imm8 : BitVec 8) :
    CondField.Statement (.ldrshLiteral cond idx u rt imm8) := rfl
theorem CondField.ldrshRegister (cond : Cond) (idx : Indexing) (u : Bool) (rn : RegIdx) (rt : RegIdx) (rm : RegIdx) :
    CondField.Statement (.ldrshRegister cond idx u rn rt rm) := rfl
theorem CondField.strhtImmediate (cond : Cond) (u : Bool) (rn : RegIdx) (rt : RegIdx) (imm8 : BitVec 8) :
    CondField.Statement (.strhtImmediate cond u rn rt imm8) := rfl
theorem CondField.strhtRegister (cond : Cond) (u : Bool) (rn : RegIdx) (rt : RegIdx) (rm : RegIdx) :
    CondField.Statement (.strhtRegister cond u rn rt rm) := rfl
theorem CondField.ldrhtImmediate (cond : Cond) (u : Bool) (rn : RegIdx) (rt : RegIdx) (imm8 : BitVec 8) :
    CondField.Statement (.ldrhtImmediate cond u rn rt imm8) := rfl
theorem CondField.ldrhtRegister (cond : Cond) (u : Bool) (rn : RegIdx) (rt : RegIdx) (rm : RegIdx) :
    CondField.Statement (.ldrhtRegister cond u rn rt rm) := rfl
theorem CondField.ldrsbtImmediate (cond : Cond) (u : Bool) (rn : RegIdx) (rt : RegIdx) (imm8 : BitVec 8) :
    CondField.Statement (.ldrsbtImmediate cond u rn rt imm8) := rfl
theorem CondField.ldrsbtRegister (cond : Cond) (u : Bool) (rn : RegIdx) (rt : RegIdx) (rm : RegIdx) :
    CondField.Statement (.ldrsbtRegister cond u rn rt rm) := rfl
theorem CondField.ldrshtImmediate (cond : Cond) (u : Bool) (rn : RegIdx) (rt : RegIdx) (imm8 : BitVec 8) :
    CondField.Statement (.ldrshtImmediate cond u rn rt imm8) := rfl
theorem CondField.ldrshtRegister (cond : Cond) (u : Bool) (rn : RegIdx) (rt : RegIdx) (rm : RegIdx) :
    CondField.Statement (.ldrshtRegister cond u rn rt rm) := rfl
theorem CondField.doublewordP0W1 (cond : Cond) (store : Bool) (u : Bool) (i : Bool) (rn : RegIdx) (rt : RegIdx) (imm8 : BitVec 8) :
    CondField.Statement (.doublewordP0W1 cond store u i rn rt imm8) := rfl
theorem CondField.ldrex (cond : Cond) (rn : RegIdx) (rt : RegIdx) :
    CondField.Statement (.ldrex cond rn rt) := rfl
theorem CondField.strex (cond : Cond) (rn : RegIdx) (rd : RegIdx) (rt : RegIdx) :
    CondField.Statement (.strex cond rn rd rt) := rfl
theorem CondField.strImmediate (cond : Cond) (idx : Indexing) (u : Bool) (rn : RegIdx) (rt : RegIdx) (imm12 : BitVec 12) :
    CondField.Statement (.strImmediate cond idx u rn rt imm12) := rfl
theorem CondField.strRegister (cond : Cond) (idx : Indexing) (u : Bool) (rn : RegIdx) (rt : RegIdx) (imm5 : BitVec 5) (ty : BitVec 2) (rm : RegIdx) :
    CondField.Statement (.strRegister cond idx u rn rt imm5 ty rm) := rfl
theorem CondField.ldrImmediate (cond : Cond) (idx : Indexing) (u : Bool) (rn : RegIdx) (rt : RegIdx) (imm12 : BitVec 12) :
    CondField.Statement (.ldrImmediate cond idx u rn rt imm12) := rfl
theorem CondField.ldrLiteral (cond : Cond) (idx : Indexing) (u : Bool) (rt : RegIdx) (imm12 : BitVec 12) :
    CondField.Statement (.ldrLiteral cond idx u rt imm12) := rfl
theorem CondField.ldrRegister (cond : Cond) (idx : Indexing) (u : Bool) (rn : RegIdx) (rt : RegIdx) (imm5 : BitVec 5) (ty : BitVec 2) (rm : RegIdx) :
    CondField.Statement (.ldrRegister cond idx u rn rt imm5 ty rm) := rfl
theorem CondField.strbImmediate (cond : Cond) (idx : Indexing) (u : Bool) (rn : RegIdx) (rt : RegIdx) (imm12 : BitVec 12) :
    CondField.Statement (.strbImmediate cond idx u rn rt imm12) := rfl
theorem CondField.strbRegister (cond : Cond) (idx : Indexing) (u : Bool) (rn : RegIdx) (rt : RegIdx) (imm5 : BitVec 5) (ty : BitVec 2) (rm : RegIdx) :
    CondField.Statement (.strbRegister cond idx u rn rt imm5 ty rm) := rfl
theorem CondField.ldrbImmediate (cond : Cond) (idx : Indexing) (u : Bool) (rn : RegIdx) (rt : RegIdx) (imm12 : BitVec 12) :
    CondField.Statement (.ldrbImmediate cond idx u rn rt imm12) := rfl
theorem CondField.ldrbLiteral (cond : Cond) (idx : Indexing) (u : Bool) (rt : RegIdx) (imm12 : BitVec 12) :
    CondField.Statement (.ldrbLiteral cond idx u rt imm12) := rfl
theorem CondField.ldrbRegister (cond : Cond) (idx : Indexing) (u : Bool) (rn : RegIdx) (rt : RegIdx) (imm5 : BitVec 5) (ty : BitVec 2) (rm : RegIdx) :
    CondField.Statement (.ldrbRegister cond idx u rn rt imm5 ty rm) := rfl
theorem CondField.strtImmediate (cond : Cond) (u : Bool) (rn : RegIdx) (rt : RegIdx) (imm12 : BitVec 12) :
    CondField.Statement (.strtImmediate cond u rn rt imm12) := rfl
theorem CondField.strtRegister (cond : Cond) (u : Bool) (rn : RegIdx) (rt : RegIdx) (imm5 : BitVec 5) (ty : BitVec 2) (rm : RegIdx) :
    CondField.Statement (.strtRegister cond u rn rt imm5 ty rm) := rfl
theorem CondField.ldrtImmediate (cond : Cond) (u : Bool) (rn : RegIdx) (rt : RegIdx) (imm12 : BitVec 12) :
    CondField.Statement (.ldrtImmediate cond u rn rt imm12) := rfl
theorem CondField.ldrtRegister (cond : Cond) (u : Bool) (rn : RegIdx) (rt : RegIdx) (imm5 : BitVec 5) (ty : BitVec 2) (rm : RegIdx) :
    CondField.Statement (.ldrtRegister cond u rn rt imm5 ty rm) := rfl
theorem CondField.strbtImmediate (cond : Cond) (u : Bool) (rn : RegIdx) (rt : RegIdx) (imm12 : BitVec 12) :
    CondField.Statement (.strbtImmediate cond u rn rt imm12) := rfl
theorem CondField.strbtRegister (cond : Cond) (u : Bool) (rn : RegIdx) (rt : RegIdx) (imm5 : BitVec 5) (ty : BitVec 2) (rm : RegIdx) :
    CondField.Statement (.strbtRegister cond u rn rt imm5 ty rm) := rfl
theorem CondField.ldrbtImmediate (cond : Cond) (u : Bool) (rn : RegIdx) (rt : RegIdx) (imm12 : BitVec 12) :
    CondField.Statement (.ldrbtImmediate cond u rn rt imm12) := rfl
theorem CondField.ldrbtRegister (cond : Cond) (u : Bool) (rn : RegIdx) (rt : RegIdx) (imm5 : BitVec 5) (ty : BitVec 2) (rm : RegIdx) :
    CondField.Statement (.ldrbtRegister cond u rn rt imm5 ty rm) := rfl
theorem CondField.mediaSpace (cond : Cond) (hi : BitVec 20) (lo : BitVec 4) :
    CondField.Statement (.mediaSpace cond hi lo) := rfl
theorem CondField.stmda (cond : Cond) (w : Bool) (rn : RegIdx) (regList : BitVec 16) :
    CondField.Statement (.stmda cond w rn regList) := rfl
theorem CondField.stmia (cond : Cond) (w : Bool) (rn : RegIdx) (regList : BitVec 16) :
    CondField.Statement (.stmia cond w rn regList) := rfl
theorem CondField.stmdb (cond : Cond) (w : Bool) (rn : RegIdx) (regList : BitVec 16) :
    CondField.Statement (.stmdb cond w rn regList) := rfl
theorem CondField.stmib (cond : Cond) (w : Bool) (rn : RegIdx) (regList : BitVec 16) :
    CondField.Statement (.stmib cond w rn regList) := rfl
theorem CondField.ldmda (cond : Cond) (w : Bool) (rn : RegIdx) (regList : BitVec 16) :
    CondField.Statement (.ldmda cond w rn regList) := rfl
theorem CondField.ldmia (cond : Cond) (w : Bool) (rn : RegIdx) (regList : BitVec 16) :
    CondField.Statement (.ldmia cond w rn regList) := rfl
theorem CondField.ldmdb (cond : Cond) (w : Bool) (rn : RegIdx) (regList : BitVec 16) :
    CondField.Statement (.ldmdb cond w rn regList) := rfl
theorem CondField.ldmib (cond : Cond) (w : Bool) (rn : RegIdx) (regList : BitVec 16) :
    CondField.Statement (.ldmib cond w rn regList) := rfl
theorem CondField.blockNativeS (cond : Cond) (p : Bool) (u : Bool) (w : Bool) (l : Bool) (rn : RegIdx) (regList : BitVec 16) :
    CondField.Statement (.blockNativeS cond p u w l rn regList) := rfl
theorem CondField.b (cond : Cond) (imm24 : BitVec 24) :
    CondField.Statement (.b cond imm24) := rfl
theorem CondField.bl (cond : Cond) (imm24 : BitVec 24) :
    CondField.Statement (.bl cond imm24) := rfl
theorem CondField.vfpSpace (cond : Cond) (op : BitVec 2) (mid : BitVec 12) (odd : Bool) (low : BitVec 8) :
    CondField.Statement (.vfpSpace cond op mid odd low) := rfl
theorem CondField.stc (cond : Cond) (p : Bool) (u : Bool) (d : Bool) (w : Bool) (rn : BitVec 4) (crd : BitVec 4) (coproc : BitVec 4) (imm8 : BitVec 8) :
    CondField.Statement (.stc cond p u d w rn crd coproc imm8) := rfl
theorem CondField.ldcImmediate (cond : Cond) (p : Bool) (u : Bool) (d : Bool) (w : Bool) (rn : BitVec 4) (crd : BitVec 4) (coproc : BitVec 4) (imm8 : BitVec 8) :
    CondField.Statement (.ldcImmediate cond p u d w rn crd coproc imm8) := rfl
theorem CondField.ldcLiteral (cond : Cond) (p : Bool) (u : Bool) (d : Bool) (w : Bool) (crd : BitVec 4) (coproc : BitVec 4) (imm8 : BitVec 8) :
    CondField.Statement (.ldcLiteral cond p u d w crd coproc imm8) := rfl
theorem CondField.mcrr (cond : Cond) (rt2 : BitVec 4) (rt : BitVec 4) (coproc : BitVec 4) (opc1 : BitVec 4) (crm : BitVec 4) :
    CondField.Statement (.mcrr cond rt2 rt coproc opc1 crm) := rfl
theorem CondField.mrrc (cond : Cond) (rt2 : BitVec 4) (rt : BitVec 4) (coproc : BitVec 4) (opc1 : BitVec 4) (crm : BitVec 4) :
    CondField.Statement (.mrrc cond rt2 rt coproc opc1 crm) := rfl
theorem CondField.cpSpace1100000x (cond : Cond) (l : Bool) (rn : BitVec 4) (crd : BitVec 4) (coproc : BitVec 4) (imm8 : BitVec 8) :
    CondField.Statement (.cpSpace1100000x cond l rn crd coproc imm8) := rfl
theorem CondField.mcr (cond : Cond) (opc1 : BitVec 3) (crn : BitVec 4) (rt : BitVec 4) (coproc : BitVec 4) (opc2 : BitVec 3) (crm : BitVec 4) :
    CondField.Statement (.mcr cond opc1 crn rt coproc opc2 crm) := rfl
theorem CondField.mrc (cond : Cond) (opc1 : BitVec 3) (crn : BitVec 4) (rt : BitVec 4) (coproc : BitVec 4) (opc2 : BitVec 3) (crm : BitVec 4) :
    CondField.Statement (.mrc cond opc1 crn rt coproc opc2 crm) := rfl
theorem CondField.cdp (cond : Cond) (opc1 : BitVec 4) (crn : BitVec 4) (crd : BitVec 4) (coproc : BitVec 4) (opc2 : BitVec 3) (crm : BitVec 4) :
    CondField.Statement (.cdp cond opc1 crn crd coproc opc2 crm) := rfl
theorem CondField.hypCps (cond : Cond) (imod : BitVec 2) (m : Bool) (a : Bool) (i : Bool) (f : Bool) (mode : BitVec 5) :
    CondField.Statement (.hypCps cond imod m a i f mode) := rfl
theorem CondField.hypMrs (cond : Cond) (r : Bool) (rd : RegIdx) :
    CondField.Statement (.hypMrs cond r rd) := rfl
theorem CondField.hypMsrImmediate (cond : Cond) (r : Bool) (mask : BitVec 4) (imm12 : BitVec 12) :
    CondField.Statement (.hypMsrImmediate cond r mask imm12) := rfl
theorem CondField.hypMsrRegister (cond : Cond) (r : Bool) (mask : BitVec 4) (rn : RegIdx) :
    CondField.Statement (.hypMsrRegister cond r mask rn) := rfl
theorem CondField.hypRfe (cond : Cond) (p : Bool) (u : Bool) (w : Bool) (rn : RegIdx) :
    CondField.Statement (.hypRfe cond p u w rn) := rfl
theorem CondField.hypSrs (cond : Cond) (p : Bool) (u : Bool) (w : Bool) (mode : BitVec 5) :
    CondField.Statement (.hypSrs cond p u w mode) := rfl
theorem CondField.hypWfi (cond : Cond) :
    CondField.Statement (.hypWfi cond) := rfl
theorem CondField.hypSubid7 (cond : Cond) (low : BitVec 18) :
    CondField.Statement (.hypSubid7 cond low) := rfl
theorem CondField.hypLdmExceptionReturn (cond : Cond) (p : Bool) (u : Bool) (w : Bool) (rn : RegIdx) (regList : BitVec 16) :
    CondField.Statement (.hypLdmExceptionReturn cond p u w rn regList) := rfl
theorem CondField.hypLdmUserRegisters (cond : Cond) (p : Bool) (u : Bool) (w : Bool) (rn : RegIdx) (regList : BitVec 16) :
    CondField.Statement (.hypLdmUserRegisters cond p u w rn regList) := rfl
theorem CondField.hypStmUserRegisters (cond : Cond) (p : Bool) (u : Bool) (rn : RegIdx) (regList : BitVec 16) :
    CondField.Statement (.hypStmUserRegisters cond p u rn regList) := rfl
theorem CondField.hypAndsPcImmediate (cond : Cond) (rn : RegIdx) (imm12 : BitVec 12) :
    CondField.Statement (.hypAndsPcImmediate cond rn imm12) := rfl
theorem CondField.hypAndsPcRegister (cond : Cond) (rn : RegIdx) (imm5 : BitVec 5) (ty : BitVec 2) (rm : RegIdx) :
    CondField.Statement (.hypAndsPcRegister cond rn imm5 ty rm) := rfl
theorem CondField.hypEorsPcImmediate (cond : Cond) (rn : RegIdx) (imm12 : BitVec 12) :
    CondField.Statement (.hypEorsPcImmediate cond rn imm12) := rfl
theorem CondField.hypEorsPcRegister (cond : Cond) (rn : RegIdx) (imm5 : BitVec 5) (ty : BitVec 2) (rm : RegIdx) :
    CondField.Statement (.hypEorsPcRegister cond rn imm5 ty rm) := rfl
theorem CondField.hypSubsPcImmediate (cond : Cond) (rn : RegIdx) (imm12 : BitVec 12) :
    CondField.Statement (.hypSubsPcImmediate cond rn imm12) := rfl
theorem CondField.hypSubsPcRegister (cond : Cond) (rn : RegIdx) (imm5 : BitVec 5) (ty : BitVec 2) (rm : RegIdx) :
    CondField.Statement (.hypSubsPcRegister cond rn imm5 ty rm) := rfl
theorem CondField.hypRsbsPcImmediate (cond : Cond) (rn : RegIdx) (imm12 : BitVec 12) :
    CondField.Statement (.hypRsbsPcImmediate cond rn imm12) := rfl
theorem CondField.hypRsbsPcRegister (cond : Cond) (rn : RegIdx) (imm5 : BitVec 5) (ty : BitVec 2) (rm : RegIdx) :
    CondField.Statement (.hypRsbsPcRegister cond rn imm5 ty rm) := rfl
theorem CondField.hypAddsPcImmediate (cond : Cond) (rn : RegIdx) (imm12 : BitVec 12) :
    CondField.Statement (.hypAddsPcImmediate cond rn imm12) := rfl
theorem CondField.hypAddsPcRegister (cond : Cond) (rn : RegIdx) (imm5 : BitVec 5) (ty : BitVec 2) (rm : RegIdx) :
    CondField.Statement (.hypAddsPcRegister cond rn imm5 ty rm) := rfl
theorem CondField.hypAdcsPcImmediate (cond : Cond) (rn : RegIdx) (imm12 : BitVec 12) :
    CondField.Statement (.hypAdcsPcImmediate cond rn imm12) := rfl
theorem CondField.hypAdcsPcRegister (cond : Cond) (rn : RegIdx) (imm5 : BitVec 5) (ty : BitVec 2) (rm : RegIdx) :
    CondField.Statement (.hypAdcsPcRegister cond rn imm5 ty rm) := rfl
theorem CondField.hypSbcsPcImmediate (cond : Cond) (rn : RegIdx) (imm12 : BitVec 12) :
    CondField.Statement (.hypSbcsPcImmediate cond rn imm12) := rfl
theorem CondField.hypSbcsPcRegister (cond : Cond) (rn : RegIdx) (imm5 : BitVec 5) (ty : BitVec 2) (rm : RegIdx) :
    CondField.Statement (.hypSbcsPcRegister cond rn imm5 ty rm) := rfl
theorem CondField.hypRscsPcImmediate (cond : Cond) (rn : RegIdx) (imm12 : BitVec 12) :
    CondField.Statement (.hypRscsPcImmediate cond rn imm12) := rfl
theorem CondField.hypRscsPcRegister (cond : Cond) (rn : RegIdx) (imm5 : BitVec 5) (ty : BitVec 2) (rm : RegIdx) :
    CondField.Statement (.hypRscsPcRegister cond rn imm5 ty rm) := rfl
theorem CondField.hypOrrsPcImmediate (cond : Cond) (rn : RegIdx) (imm12 : BitVec 12) :
    CondField.Statement (.hypOrrsPcImmediate cond rn imm12) := rfl
theorem CondField.hypOrrsPcRegister (cond : Cond) (rn : RegIdx) (imm5 : BitVec 5) (ty : BitVec 2) (rm : RegIdx) :
    CondField.Statement (.hypOrrsPcRegister cond rn imm5 ty rm) := rfl
theorem CondField.hypMovsPcImmediate (cond : Cond) (rn : RegIdx) (imm12 : BitVec 12) :
    CondField.Statement (.hypMovsPcImmediate cond rn imm12) := rfl
theorem CondField.hypMovsPcRegister (cond : Cond) (rn : RegIdx) (imm5 : BitVec 5) (ty : BitVec 2) (rm : RegIdx) :
    CondField.Statement (.hypMovsPcRegister cond rn imm5 ty rm) := rfl
theorem CondField.hypBicsPcImmediate (cond : Cond) (rn : RegIdx) (imm12 : BitVec 12) :
    CondField.Statement (.hypBicsPcImmediate cond rn imm12) := rfl
theorem CondField.hypBicsPcRegister (cond : Cond) (rn : RegIdx) (imm5 : BitVec 5) (ty : BitVec 2) (rm : RegIdx) :
    CondField.Statement (.hypBicsPcRegister cond rn imm5 ty rm) := rfl
theorem CondField.hypMvnsPcImmediate (cond : Cond) (rn : RegIdx) (imm12 : BitVec 12) :
    CondField.Statement (.hypMvnsPcImmediate cond rn imm12) := rfl
theorem CondField.hypMvnsPcRegister (cond : Cond) (rn : RegIdx) (imm5 : BitVec 5) (ty : BitVec 2) (rm : RegIdx) :
    CondField.Statement (.hypMvnsPcRegister cond rn imm5 ty rm) := rfl

end Sys2Proof.Laws
end

