-- ==== Sys2Proof/Tests/Slice0.lean ====
section
/-! SUPPORT. Tests. Decoding: one word of every row, written from the bit fields of spec/opcode_table.json. Running: one step each, from the
vectors of spec/95_test_vectors.md, named by their identifiers. Well-formedness: an ill-formed term for each check. Witnesses: the
hypotheses of each statement, met together by concrete values. -/

namespace Sys2Proof.Tests

set_option Elab.async false

open Sys2Proof Sys2Proof.Machine

/-! ### Helpers -/

/-- The reset state with a status, a PC, some registers and some words of memory. -/
def at_ (cpsr pc : Word) (regs : List (PReg × Word)) (mem : List (Word × Word)) : State :=
  { regs.foldl (fun s p => s.setReg p.1 p.2) State.reset with
    cpsr := cpsr, pc := pc, mem := mem.foldl (fun m p => m.write32 p.1 p.2) [] }

/-- The same state with a port that fails every access touching a byte, with code 5 (R81). -/
def faulting (a : Word) (s : State) : State := { s with port := .reference [⟨a, true, true, true, true, 5⟩] true }

/-- The same state with a port that answers "not exclusive" (R65). -/
def notExclusive (s : State) : State := { s with port := .reference [] false }

/-- The same state with a reference coprocessor at number 7 (R335). -/
def withCop (r : RefCop) (s : State) : State := { s with coprocs := s.coprocs.set 7 (some ⟨Hooks.all, .reference r⟩) }

/-- The state after the instruction in the word, if there is one. -/
def after (s : State) (w : Word) : Option State :=
  match decode s.hyp w with
  | .error _ => none
  | .ok i =>
    match exec i s with
    | .next t => some t
    | _ => none

/-- What a vector states of the end: the status code (R420), the PC, the CPSR, some registers, some words of memory. -/
def ends (s : State) (w : Word) (regs : List PReg) (mem : List Word) : Option (Nat × Word × Word × List Word × List Word) :=
  match after s w with
  | none => none
  | some t => t.result.map fun k => (statusCode k, t.pc, t.cpsr, regs.map t.reg, mem.map fun a => t.mem.read32 a)

/-! ### Decoding -/

/-- One word of each row, written from the bit fields of the opcode table; vectors A21, A22, A23, A15, A12, A17, A31, A7, A10, A11, A18, A20, A24, A3, A29, A26, A5, A40; the others by the same fields. -/
theorem test_decode_data_processing :
    decode false 0xE21024FF#32 = .ok (.andImmediate 14#4 true 0#4 2#4 0x4FF#12) ∧
    decode false 0xE0102001#32 = .ok (.andRegister 14#4 true 0#4 2#4 0#5 0#2 1#4) ∧
    decode false 0xE233A4A7#32 = .ok (.eorImmediate 14#4 true 3#4 10#4 0x4A7#12) ∧
    decode false 0xE03020A1#32 = .ok (.eorRegister 14#4 true 0#4 2#4 1#5 1#2 1#4) ∧
    decode false 0xE2502001#32 = .ok (.subImmediate 14#4 true 0#4 2#4 0x1#12) ∧
    decode false 0xE0502001#32 = .ok (.subRegister 14#4 true 0#4 2#4 0#5 0#2 1#4) ∧
    decode false 0xE2702000#32 = .ok (.rsbImmediate 14#4 true 0#4 2#4 0x0#12) ∧
    decode false 0xE073A9C5#32 = .ok (.rsbRegister 14#4 true 3#4 10#4 19#5 2#2 5#4) ∧
    decode false 0xE28F0004#32 = .ok (.addImmediate 14#4 false 15#4 0#4 0x4#12) ∧
    decode false 0xE0902001#32 = .ok (.addRegister 14#4 true 0#4 2#4 0#5 0#2 1#4) ∧
    decode false 0xE2B02000#32 = .ok (.adcImmediate 14#4 true 0#4 2#4 0x0#12) ∧
    decode false 0xE0A02001#32 = .ok (.adcRegister 14#4 false 0#4 2#4 0#5 0#2 1#4) ∧
    decode false 0xE2D3A4A7#32 = .ok (.sbcImmediate 14#4 true 3#4 10#4 0x4A7#12) ∧
    decode false 0xE0D02001#32 = .ok (.sbcRegister 14#4 true 0#4 2#4 0#5 0#2 1#4) ∧
    decode false 0xE2F0200A#32 = .ok (.rscImmediate 14#4 true 0#4 2#4 0xA#12) ∧
    decode false 0xE0F3A9C5#32 = .ok (.rscRegister 14#4 true 3#4 10#4 19#5 2#2 5#4) ∧
    decode false 0xE393A4A7#32 = .ok (.orrImmediate 14#4 true 3#4 10#4 0x4A7#12) ∧
    decode false 0xE1802041#32 = .ok (.orrRegister 14#4 false 0#4 2#4 0#5 2#2 1#4) ∧
    decode false 0xE3B00102#32 = .ok (.movImmediate 14#4 true 0#4 0#4 0x102#12) ∧
    decode false 0xE1B02261#32 = .ok (.movRegister 14#4 true 0#4 2#4 4#5 3#2 1#4) ∧
    decode false 0xE3C020FF#32 = .ok (.bicImmediate 14#4 false 0#4 2#4 0xFF#12) ∧
    decode false 0xE1D3A9C5#32 = .ok (.bicRegister 14#4 true 3#4 10#4 19#5 2#2 5#4) ∧
    decode false 0xE3F014FF#32 = .ok (.mvnImmediate 14#4 true 0#4 1#4 0x4FF#12) ∧
    decode false 0xE1F3A9C5#32 = .ok (.mvnRegister 14#4 true 3#4 10#4 19#5 2#2 5#4) ∧
    decode false 0xE30B3EEF#32 = .ok (.movw 14#4 3#4 0xBEEF#16) :=
  ⟨rfl, rfl, rfl, rfl, rfl, rfl, rfl, rfl, rfl, rfl, rfl, rfl, rfl, rfl, rfl, rfl, rfl, rfl, rfl, rfl, rfl, rfl, rfl, rfl, rfl⟩

/-- One word of each row, written from the bit fields of the opcode table; vectors X30, X13, X9, X19, X10, X34, X20, X35, X17, X7, X5, X11; the others by the same fields. -/
theorem test_decode_extra_load_store :
    decode false 0xE0CF10B2#32 = .ok (.strhImmediate 14#4 .postIndexed true 15#4 1#4 2#8) ∧
    decode false 0xE00010B2#32 = .ok (.strhRegister 14#4 .postIndexed false 0#4 1#4 2#4) ∧
    decode false 0xE0D01FB4#32 = .ok (.ldrhImmediate 14#4 .postIndexed true 0#4 1#4 244#8) ∧
    decode false 0xE1DF10B4#32 = .ok (.ldrhLiteral 14#4 .offset true 1#4 4#8) ∧
    decode false 0xE19010B2#32 = .ok (.ldrhRegister 14#4 .offset true 0#4 1#4 2#4) ∧
    decode false 0xE1E320D8#32 = .ok (.ldrdImmediate 14#4 .preIndexed true 3#4 2#4 8#8) ∧
    decode false 0xE14F20D8#32 = .ok (.ldrdLiteral 14#4 .offset false 2#4 8#8) ∧
    decode false 0xE18020D3#32 = .ok (.ldrdRegister 14#4 .offset true 0#4 2#4 3#4) ∧
    decode false 0xE16020F8#32 = .ok (.strdImmediate 14#4 .preIndexed false 0#4 2#4 8#8) ∧
    decode false 0xE183A0F5#32 = .ok (.strdRegister 14#4 .offset true 3#4 10#4 5#4) ∧
    decode false 0xE1D010D3#32 = .ok (.ldrsbImmediate 14#4 .offset true 0#4 1#4 3#8) ∧
    decode false 0xE1DFA9D6#32 = .ok (.ldrsbLiteral 14#4 .offset true 10#4 150#8) ∧
    decode false 0xE193A0D5#32 = .ok (.ldrsbRegister 14#4 .offset true 3#4 10#4 5#4) ∧
    decode false 0xE1D010F2#32 = .ok (.ldrshImmediate 14#4 .offset true 0#4 1#4 2#8) ∧
    decode false 0xE1DFA9F6#32 = .ok (.ldrshLiteral 14#4 .offset true 10#4 150#8) ∧
    decode false 0xE11010F2#32 = .ok (.ldrshRegister 14#4 .offset false 0#4 1#4 2#4) :=
  ⟨rfl, rfl, rfl, rfl, rfl, rfl, rfl, rfl, rfl, rfl, rfl, rfl, rfl, rfl, rfl, rfl⟩

/-- One word of each row, written from the bit fields of the opcode table; vectors X22, X21, X23, X24, X36, X39, X40; the others by the same fields. -/
theorem test_decode_extra_load_store_t_and_sync :
    decode false 0xE0E3A9B6#32 = .ok (.strhtImmediate 14#4 true 3#4 10#4 150#8) ∧
    decode false 0xE02010B2#32 = .ok (.strhtRegister 14#4 false 0#4 1#4 2#4) ∧
    decode false 0xE0F010B2#32 = .ok (.ldrhtImmediate 14#4 true 0#4 1#4 2#8) ∧
    decode false 0xE0B3A0B5#32 = .ok (.ldrhtRegister 14#4 true 3#4 10#4 5#4) ∧
    decode false 0xE0F010D1#32 = .ok (.ldrsbtImmediate 14#4 true 0#4 1#4 1#8) ∧
    decode false 0xE0B3A0D5#32 = .ok (.ldrsbtRegister 14#4 true 3#4 10#4 5#4) ∧
    decode false 0xE0F010F0#32 = .ok (.ldrshtImmediate 14#4 true 0#4 1#4 0#8) ∧
    decode false 0xE0B3A0F5#32 = .ok (.ldrshtRegister 14#4 true 3#4 10#4 5#4) ∧
    decode false 0xE0E020D8#32 = .ok (.doublewordP0W1 14#4 false true true 0#4 2#4 8#8) ∧
    decode false 0xE1901F9F#32 = .ok (.ldrex 14#4 0#4 1#4) ∧
    decode false 0xE1802F91#32 = .ok (.strex 14#4 0#4 2#4 1#4) :=
  ⟨rfl, rfl, rfl, rfl, rfl, rfl, rfl, rfl, rfl, rfl, rfl⟩

/-- One word of each row, written from the bit fields of the opcode table; vectors L34, L10, L2, L17, L15, L9, L6, L19, L24, L23, L26, L25, L37; the others by the same fields. -/
theorem test_decode_load_store :
    decode false 0xE48F2004#32 = .ok (.strImmediate 14#4 .postIndexed true 15#4 2#4 0x4#12) ∧
    decode false 0xE7032104#32 = .ok (.strRegister 14#4 .offset false 3#4 2#4 2#5 0#2 4#4) ∧
    decode false 0xE4932008#32 = .ok (.ldrImmediate 14#4 .postIndexed true 3#4 2#4 0x8#12) ∧
    decode false 0xE51F2008#32 = .ok (.ldrLiteral 14#4 .offset false 2#4 0x8#12) ∧
    decode false 0xE7932FE4#32 = .ok (.ldrRegister 14#4 .offset true 3#4 2#4 31#5 3#2 4#4) ∧
    decode false 0xE5C32001#32 = .ok (.strbImmediate 14#4 .offset true 3#4 2#4 0x1#12) ∧
    decode false 0xE7C3A9C5#32 = .ok (.strbRegister 14#4 .offset true 3#4 10#4 19#5 2#2 5#4) ∧
    decode false 0xE5D32003#32 = .ok (.ldrbImmediate 14#4 .offset true 3#4 2#4 0x3#12) ∧
    decode false 0xE5DF2000#32 = .ok (.ldrbLiteral 14#4 .offset true 2#4 0x0#12) ∧
    decode false 0xE7D3A9C5#32 = .ok (.ldrbRegister 14#4 .offset true 3#4 10#4 19#5 2#2 5#4) ∧
    decode false 0xE4232004#32 = .ok (.strtImmediate 14#4 false 3#4 2#4 0x4#12) ∧
    decode false 0xE6A3A9C5#32 = .ok (.strtRegister 14#4 true 3#4 10#4 19#5 2#2 5#4) ∧
    decode false 0xE4B32004#32 = .ok (.ldrtImmediate 14#4 true 3#4 2#4 0x4#12) ∧
    decode false 0xE6B3A9C5#32 = .ok (.ldrtRegister 14#4 true 3#4 10#4 19#5 2#2 5#4) ∧
    decode false 0xE4E32001#32 = .ok (.strbtImmediate 14#4 true 3#4 2#4 0x1#12) ∧
    decode false 0xE6E3A9C5#32 = .ok (.strbtRegister 14#4 true 3#4 10#4 19#5 2#2 5#4) ∧
    decode false 0xE4F3A4A7#32 = .ok (.ldrbtImmediate 14#4 true 3#4 10#4 0x4A7#12) ∧
    decode false 0xE6F32004#32 = .ok (.ldrbtRegister 14#4 true 3#4 2#4 0#5 0#2 4#4) ∧
    decode false 0xE7932514#32 = .ok (.mediaSpace 14#4 0xC9928#20 4#4) :=
  ⟨rfl, rfl, rfl, rfl, rfl, rfl, rfl, rfl, rfl, rfl, rfl, rfl, rfl, rfl, rfl, rfl, rfl, rfl, rfl⟩

/-- One word of each row, written from the bit fields of the opcode table; vectors B5, B14, B1, B4, B8, B2, B9, B7, E23, E3, E4; the others by the same fields. -/
theorem test_decode_block_transfer_and_branch :
    decode false 0xE8200006#32 = .ok (.stmda 14#4 true 0#4 0x6#16) ∧
    decode false 0xE8A00003#32 = .ok (.stmia 14#4 true 0#4 0x3#16) ∧
    decode false 0xE92D400F#32 = .ok (.stmdb 14#4 true 13#4 0x400F#16) ∧
    decode false 0xE9A00006#32 = .ok (.stmib 14#4 true 0#4 0x6#16) ∧
    decode false 0xE8300006#32 = .ok (.ldmda 14#4 true 0#4 0x6#16) ∧
    decode false 0xE8BD400F#32 = .ok (.ldmia 14#4 true 13#4 0x400F#16) ∧
    decode false 0xE9300006#32 = .ok (.ldmdb 14#4 true 0#4 0x6#16) ∧
    decode false 0xE9900006#32 = .ok (.ldmib 14#4 false 0#4 0x6#16) ∧
    decode false 0xF96D0513#32 = .ok (.blockNativeS 15#4 true false true false 13#4 0x513#16) ∧
    decode false 0xEAFFFFFE#32 = .ok (.b 14#4 0xFFFFFE#24) ∧
    decode false 0xEB000000#32 = .ok (.bl 14#4 0x0#24) :=
  ⟨rfl, rfl, rfl, rfl, rfl, rfl, rfl, rfl, rfl, rfl, rfl⟩

/-- One word of each row, written from the bit fields of the opcode table; vectors K27, K19, K15, K21, K8, K9, E30, K1, K2, K13; the others by the same fields. -/
theorem test_decode_coprocessor :
    decode false 0xEE010B10#32 = .ok (.vfpSpace 14#4 2#2 0x10#12 true 16#8) ∧
    decode false 0xEC801705#32 = .ok (.stc 14#4 false true false false 0#4 1#4 7#4 5#8) ∧
    decode false 0xED902701#32 = .ok (.ldcImmediate 14#4 true true false false 0#4 2#4 7#4 1#8) ∧
    decode false 0xED9F0700#32 = .ok (.ldcLiteral 14#4 true true false false 0#4 7#4 0#8) ∧
    decode false 0xEC410F32#32 = .ok (.mcrr 14#4 1#4 0#4 15#4 3#4 2#4) ∧
    decode false 0xEC554F32#32 = .ok (.mrrc 14#4 5#4 4#4 15#4 3#4 2#4) ∧
    decode false 0xEC000700#32 = .ok (.cpSpace1100000x 14#4 false 0#4 0#4 7#4 0#8) ∧
    decode false 0xEE010F10#32 = .ok (.mcr 14#4 0#3 1#4 0#4 15#4 0#3 0#4) ∧
    decode false 0xEE112F10#32 = .ok (.mrc 14#4 0#3 1#4 2#4 15#4 0#3 0#4) ∧
    decode false 0xEE013702#32 = .ok (.cdp 14#4 0#4 1#4 3#4 7#4 0#3 2#4) :=
  ⟨rfl, rfl, rfl, rfl, rfl, rfl, rfl, rfl, rfl, rfl⟩

/-- One word of each row, written from the bit fields of the opcode table; vectors H4, H17, H18, H26, T1, T12, H35, E29, T20, T28, T36; the others by the same fields. -/
theorem test_decode_hypercall :
    decode false 0xEF038092#32 = .ok (.hypCps 14#4 3#2 true false true false 18#5) ∧
    decode false 0xEF04F000#32 = .ok (.hypMrs 14#4 false 15#4) ∧
    decode false 0xEF0810D3#32 = .ok (.hypMsrImmediate 14#4 false 1#4 0xD3#12) ∧
    decode false 0xEF0D9002#32 = .ok (.hypMsrRegister 14#4 true 9#4 2#4) ∧
    decode false 0xEF11800D#32 = .ok (.hypRfe 14#4 false true true 13#4) ∧
    decode false 0xEF168013#32 = .ok (.hypSrs 14#4 true false true 19#5) ∧
    decode false 0xEF180000#32 = .ok (.hypWfi 14#4) ∧
    decode false 0xEF1C0000#32 = .ok (.hypSubid7 14#4 0x0#18) ∧
    decode false 0xEFBD8001#32 = .ok (.hypLdmExceptionReturn 14#4 false true true 13#4 0x8001#16) ∧
    decode false 0xEFA06100#32 = .ok (.hypLdmUserRegisters 14#4 false true false 0#4 0x6100#16) ∧
    decode false 0xEF6DA100#32 = .ok (.hypStmUserRegisters 14#4 true false 13#4 0xA100#16) :=
  ⟨rfl, rfl, rfl, rfl, rfl, rfl, rfl, rfl, rfl, rfl, rfl⟩

/-- One word of each row, written from the bit fields of the opcode table; vectors T52, T44, T45, T42, T46; the others by the same fields. -/
theorem test_decode_hypercall_subs_pc :
    decode false 0xEF3034A7#32 = .ok (.hypAndsPcImmediate 14#4 3#4 0x4A7#12) ∧
    decode false 0xEF2039C5#32 = .ok (.hypAndsPcRegister 14#4 3#4 19#5 2#2 5#4) ∧
    decode false 0xEF3134A7#32 = .ok (.hypEorsPcImmediate 14#4 3#4 0x4A7#12) ∧
    decode false 0xEF2139C5#32 = .ok (.hypEorsPcRegister 14#4 3#4 19#5 2#2 5#4) ∧
    decode false 0x1F32E004#32 = .ok (.hypSubsPcImmediate 1#4 14#4 0x4#12) ∧
    decode false 0xEF2239C5#32 = .ok (.hypSubsPcRegister 14#4 3#4 19#5 2#2 5#4) ∧
    decode false 0xEF3334A7#32 = .ok (.hypRsbsPcImmediate 14#4 3#4 0x4A7#12) ∧
    decode false 0xEF2339C5#32 = .ok (.hypRsbsPcRegister 14#4 3#4 19#5 2#2 5#4) ∧
    decode false 0xEF3434A7#32 = .ok (.hypAddsPcImmediate 14#4 3#4 0x4A7#12) ∧
    decode false 0xEF240101#32 = .ok (.hypAddsPcRegister 14#4 0#4 2#5 0#2 1#4) ∧
    decode false 0xEF35E000#32 = .ok (.hypAdcsPcImmediate 14#4 14#4 0x0#12) ∧
    decode false 0xEF2539C5#32 = .ok (.hypAdcsPcRegister 14#4 3#4 19#5 2#2 5#4) ∧
    decode false 0xEF3634A7#32 = .ok (.hypSbcsPcImmediate 14#4 3#4 0x4A7#12) ∧
    decode false 0xEF2639C5#32 = .ok (.hypSbcsPcRegister 14#4 3#4 19#5 2#2 5#4) ∧
    decode false 0xEF3734A7#32 = .ok (.hypRscsPcImmediate 14#4 3#4 0x4A7#12) ∧
    decode false 0xEF2739C5#32 = .ok (.hypRscsPcRegister 14#4 3#4 19#5 2#2 5#4) ∧
    decode false 0xEF3C34A7#32 = .ok (.hypOrrsPcImmediate 14#4 3#4 0x4A7#12) ∧
    decode false 0xEF2C39C5#32 = .ok (.hypOrrsPcRegister 14#4 3#4 19#5 2#2 5#4) ∧
    decode false 0xEF3D34A7#32 = .ok (.hypMovsPcImmediate 14#4 3#4 0x4A7#12) ∧
    decode false 0xEF2D000E#32 = .ok (.hypMovsPcRegister 14#4 0#4 0#5 0#2 14#4) ∧
    decode false 0xEF3E34A7#32 = .ok (.hypBicsPcImmediate 14#4 3#4 0x4A7#12) ∧
    decode false 0xEF2E39C5#32 = .ok (.hypBicsPcRegister 14#4 3#4 19#5 2#2 5#4) ∧
    decode false 0xEF3F0000#32 = .ok (.hypMvnsPcImmediate 14#4 0#4 0x0#12) ∧
    decode false 0xEF2F39C5#32 = .ok (.hypMvnsPcRegister 14#4 3#4 19#5 2#2 5#4) :=
  ⟨rfl, rfl, rfl, rfl, rfl, rfl, rfl, rfl, rfl, rfl, rfl, rfl, rfl, rfl, rfl, rfl, rfl, rfl, rfl, rfl, rfl, rfl, rfl, rfl⟩

/-! ### Vectors, one step each -/

/-- A21: `ANDS r2, r0, #0xFF000000 (C from the rotation, V kept)`. -/
theorem test_A21_ands : ends (at_ 0x10000010#32 0x0#32 [(.r0usr, 0x12345678#32)] []) 0xE21024FF#32 [.r2usr] [] =
    some (0, 0x4#32, 0x30000010#32, [0x12000000#32], []) := by decide +kernel

/-- A22: `ANDS r2, r0, r1 (C kept: no shift)`. -/
theorem test_A22_ands : ends (at_ 0x20000010#32 0x0#32 [(.r0usr, 0xF0#32), (.r1usr, 0xF#32), (.r2usr, 0xDEAD#32)] []) 0xE0102001#32 [.r2usr] [] =
    some (0, 0x4#32, 0x60000010#32, [0x0#32], []) := by decide +kernel

/-- A23: `EORS r2, r0, r1, LSR #1`. -/
theorem test_A23_eors : ends (at_ 0x10#32 0x0#32 [(.r0usr, 0xFFFFFFFF#32), (.r1usr, 0x3#32)] []) 0xE03020A1#32 [.r2usr] [] =
    some (0, 0x4#32, 0xA0000010#32, [0xFFFFFFFE#32], []) := by decide +kernel

/-- A15: `SUBS r2, r0, #1 (overflow)`. -/
theorem test_A15_subs : ends (at_ 0x10#32 0x0#32 [(.r0usr, 0x80000000#32)] []) 0xE2502001#32 [.r2usr] [] =
    some (0, 0x4#32, 0x30000010#32, [0x7FFFFFFF#32], []) := by decide +kernel

/-- A13: `SUBS r2, r0, r1 (3-5)`. -/
theorem test_A13_subs : ends (at_ 0x10#32 0x0#32 [(.r0usr, 0x3#32), (.r1usr, 0x5#32)] []) 0xE0502001#32 [.r2usr] [] =
    some (0, 0x4#32, 0x80000010#32, [0xFFFFFFFE#32], []) := by decide +kernel

/-- A17: `RSBS r2, r0, #0 (negate -2^31)`. -/
theorem test_A17_rsbs : ends (at_ 0x10#32 0x0#32 [(.r0usr, 0x80000000#32)] []) 0xE2702000#32 [.r2usr] [] =
    some (0, 0x4#32, 0x90000010#32, [0x80000000#32], []) := by decide +kernel

/-- A31: `ADD r0, pc, #4 (r15 reads pc+8)`. -/
theorem test_A31_add : ends (at_ 0x10#32 0x100#32 [] []) 0xE28F0004#32 [.r0usr] [] =
    some (0, 0x104#32, 0x10#32, [0x10C#32], []) := by decide +kernel

/-- A8: `ADDS r2, r0, r1 (signed overflow)`. -/
theorem test_A8_adds : ends (at_ 0x10#32 0x0#32 [(.r0usr, 0x7FFFFFFF#32), (.r1usr, 0x1#32)] []) 0xE0902001#32 [.r2usr] [] =
    some (0, 0x4#32, 0x90000010#32, [0x80000000#32], []) := by decide +kernel

/-- A10: `ADCS r2, r0, #0 with C=1`. -/
theorem test_A10_adcs : ends (at_ 0x20000010#32 0x0#32 [(.r0usr, 0xFFFFFFFF#32), (.r2usr, 0xDEAD#32)] []) 0xE2B02000#32 [.r2usr] [] =
    some (0, 0x4#32, 0x60000010#32, [0x0#32], []) := by decide +kernel

/-- A18: `SBCS r2, r0, r1 with C=0`. -/
theorem test_A18_sbcs : ends (at_ 0x10#32 0x0#32 [(.r0usr, 0x5#32), (.r1usr, 0x3#32)] []) 0xE0D02001#32 [.r2usr] [] =
    some (0, 0x4#32, 0x20000010#32, [0x1#32], []) := by decide +kernel

/-- A20: `RSCS r2, r0, #10 with C=0`. -/
theorem test_A20_rscs : ends (at_ 0x10#32 0x0#32 [(.r0usr, 0x3#32)] []) 0xE2F0200A#32 [.r2usr] [] =
    some (0, 0x4#32, 0x20000010#32, [0x6#32], []) := by decide +kernel

/-- A24: `ORR r2, r0, r1, ASR #32 (imm5=0)`. -/
theorem test_A24_orr : ends (at_ 0x10#32 0x0#32 [(.r0usr, 0x1#32), (.r1usr, 0x80000000#32)] []) 0xE1802041#32 [.r2usr] [] =
    some (0, 0x4#32, 0x10#32, [0xFFFFFFFF#32], []) := by decide +kernel

/-- A25: `ORRS r2, r0, r1, LSR #32 (imm5=0)`. -/
theorem test_A25_orrs : ends (at_ 0x10#32 0x0#32 [(.r1usr, 0x80000000#32), (.r2usr, 0xDEAD#32)] []) 0xE1902021#32 [.r2usr] [] =
    some (0, 0x4#32, 0x60000010#32, [0x0#32], []) := by decide +kernel

/-- A3: `MOVS r0, #0x80000000`. -/
theorem test_A3_movs : ends (at_ 0x10#32 0x0#32 [] []) 0xE3B00102#32 [.r0usr] [] =
    some (0, 0x4#32, 0xA0000010#32, [0x80000000#32], []) := by decide +kernel

/-- A27: `MOVS r2, r1, RRX with C=1`. -/
theorem test_A27_movs : ends (at_ 0x20000010#32 0x0#32 [(.r1usr, 0x2#32)] []) 0xE1B02061#32 [.r2usr] [] =
    some (0, 0x4#32, 0x80000010#32, [0x80000001#32], []) := by decide +kernel

/-- A26: `BIC r2, r0, #0xFF`. -/
theorem test_A26_bic : ends (at_ 0x10#32 0x0#32 [(.r0usr, 0x12345678#32)] []) 0xE3C020FF#32 [.r2usr] [] =
    some (0, 0x4#32, 0x10#32, [0x12345600#32], []) := by decide +kernel

/-- A5: `MVNS r1, #0xFF000000 (C from the rotation)`. -/
theorem test_A5_mvns : ends (at_ 0x10#32 0x0#32 [] []) 0xE3F014FF#32 [.r1usr] [] =
    some (0, 0x4#32, 0x20000010#32, [0xFFFFFF#32], []) := by decide +kernel

/-- A34: `MOV r13, #0x2000 in IRQ mode (banked destination)`. -/
theorem test_A34_mov : ends (at_ 0x12#32 0x0#32 [] []) 0xE3A0DA02#32 [.r13irq] [] =
    some (0, 0x4#32, 0x12#32, [0x2000#32], []) := by decide +kernel

/-- A36: `MOVEQ r0, #1 with Z=0`. -/
theorem test_A36_moveq : ends (at_ 0x10#32 0x0#32 [] []) 0x03A00001#32 [] [] =
    some (0, 0x4#32, 0x10#32, [], []) := by decide +kernel

/-- A40: `MOVW r3, #0xBEEF`. -/
theorem test_A40_movw : ends (at_ 0x10#32 0x0#32 [(.r3usr, 0xFFFFFFFF#32)] []) 0xE30B3EEF#32 [.r3usr] [] =
    some (0, 0x4#32, 0x10#32, [0xBEEF#32], []) := by decide +kernel

/-- X12: `STRH r1, [r0, #2]`. -/
theorem test_X12_strh : ends (at_ 0x10#32 0x0#32 [(.r0usr, 0x2000#32), (.r1usr, 0x12345678#32)] [(0x2000#32, 0xAAAAAAAA#32)]) 0xE1C010B2#32 [.r0usr, .r1usr] [0x2000#32] =
    some (0, 0x4#32, 0x10#32, [0x2000#32, 0x12345678#32], [0x5678AAAA#32]) := by decide +kernel

/-- X13: `STRH r1, [r0], -r2`. -/
theorem test_X13_strh : ends (at_ 0x10#32 0x0#32 [(.r0usr, 0x2000#32), (.r1usr, 0xFFFF0001#32), (.r2usr, 0x10#32)] []) 0xE00010B2#32 [.r0usr] [0x2000#32] =
    some (0, 0x4#32, 0x10#32, [0x1FF0#32], [0x1#32]) := by decide +kernel

/-- X8: `LDRH r1, [r0, #-2]!`. -/
theorem test_X8_ldrh : ends (at_ 0x10#32 0x0#32 [(.r0usr, 0x1004#32)] [(0x1000#32, 0x8001F1E2#32), (0x1004#32, 0xCAFEBABE#32), (0x1008#32, 0x11223344#32)]) 0xE17010B2#32 [.r0usr, .r1usr] [] =
    some (0, 0x4#32, 0x10#32, [0x1002#32, 0x8001#32], []) := by decide +kernel

/-- X9: `LDRH r1, [r0], #0xF4 (post-indexed, imm8 split)`. -/
theorem test_X9_ldrh : ends (at_ 0x10#32 0x0#32 [(.r0usr, 0x1000#32)] [(0x1000#32, 0x8001F1E2#32), (0x1004#32, 0xCAFEBABE#32), (0x1008#32, 0x11223344#32)]) 0xE0D01FB4#32 [.r0usr, .r1usr] [] =
    some (0, 0x4#32, 0x10#32, [0x10F4#32, 0xF1E2#32], []) := by decide +kernel

/-- X19: `LDRH r1, [pc, #4] (literal; pc=0x102 aligned down)`. -/
theorem test_X19_ldrh : ends (at_ 0x10#32 0x102#32 [] [(0x10C#32, 0xABCD#32)]) 0xE1DF10B4#32 [.r1usr] [] =
    some (0, 0x106#32, 0x10#32, [0xABCD#32], []) := by decide +kernel

/-- X10: `LDRH r1, [r0, r2]`. -/
theorem test_X10_ldrh : ends (at_ 0x10#32 0x0#32 [(.r0usr, 0x1000#32), (.r2usr, 0x4#32)] [(0x1000#32, 0x8001F1E2#32), (0x1004#32, 0xCAFEBABE#32), (0x1008#32, 0x11223344#32)]) 0xE19010B2#32 [.r1usr] [] =
    some (0, 0x4#32, 0x10#32, [0xBABE#32], []) := by decide +kernel

/-- X15: `LDRD r2, r3, [r0], #8`. -/
theorem test_X15_ldrd : ends (at_ 0x10#32 0x0#32 [(.r0usr, 0x1000#32)] [(0x1000#32, 0x11111111#32), (0x1004#32, 0x22222222#32)]) 0xE0C020D8#32 [.r0usr, .r2usr, .r3usr] [] =
    some (0, 0x4#32, 0x10#32, [0x1008#32, 0x11111111#32, 0x22222222#32], []) := by decide +kernel

/-- X20: `LDRD r2, r3, [pc, #-8] (literal)`. -/
theorem test_X20_ldrd : ends (at_ 0x10#32 0x100#32 [] [(0x100#32, 0x1#32), (0x104#32, 0x2#32)]) 0xE14F20D8#32 [.r2usr, .r3usr] [] =
    some (0, 0x104#32, 0x10#32, [0x1#32, 0x2#32], []) := by decide +kernel

/-- X17: `STRD r2, r3, [r0, #-8]!`. -/
theorem test_X17_strd : ends (at_ 0x10#32 0x0#32 [(.r0usr, 0x2008#32), (.r2usr, 0xA#32), (.r3usr, 0xB#32)] []) 0xE16020F8#32 [.r0usr] [0x2000#32, 0x2004#32] =
    some (0, 0x4#32, 0x10#32, [0x2000#32], [0xA#32, 0xB#32]) := by decide +kernel

/-- X6: `LDRSB r1, [r0]`. -/
theorem test_X6_ldrsb : ends (at_ 0x10#32 0x0#32 [(.r0usr, 0x1000#32)] [(0x1000#32, 0x8001F1E2#32), (0x1004#32, 0xCAFEBABE#32), (0x1008#32, 0x11223344#32)]) 0xE1D010D0#32 [.r1usr] [] =
    some (0, 0x4#32, 0x10#32, [0xFFFFFFE2#32], []) := by decide +kernel

/-- X5: `LDRSH r1, [r0, #2]`. -/
theorem test_X5_ldrsh : ends (at_ 0x10#32 0x0#32 [(.r0usr, 0x1000#32)] [(0x1000#32, 0x8001F1E2#32), (0x1004#32, 0xCAFEBABE#32), (0x1008#32, 0x11223344#32)]) 0xE1D010F2#32 [.r1usr] [] =
    some (0, 0x4#32, 0x10#32, [0xFFFF8001#32], []) := by decide +kernel

/-- X11: `LDRSH r1, [r0, -r2]`. -/
theorem test_X11_ldrsh : ends (at_ 0x10#32 0x0#32 [(.r0usr, 0x1008#32), (.r2usr, 0x6#32)] [(0x1000#32, 0x8001F1E2#32), (0x1004#32, 0xCAFEBABE#32), (0x1008#32, 0x11223344#32)]) 0xE11010F2#32 [.r1usr] [] =
    some (0, 0x4#32, 0x10#32, [0xFFFF8001#32], []) := by decide +kernel

/-- X22: `STRHT r1, [r0], -r2`. -/
theorem test_X22_strht : ends (at_ 0x13#32 0x0#32 [(.r0usr, 0x2000#32), (.r1usr, 0xBEEF#32), (.r2usr, 0x4#32)] []) 0xE02010B2#32 [.r0usr] [0x2000#32] =
    some (0, 0x4#32, 0x13#32, [0x1FFC#32], [0xBEEF#32]) := by decide +kernel

/-- X21: `LDRHT r1, [r0], #2`. -/
theorem test_X21_ldrht : ends (at_ 0x13#32 0x0#32 [(.r0usr, 0x1000#32)] [(0x1000#32, 0x8001F1E2#32), (0x1004#32, 0xCAFEBABE#32), (0x1008#32, 0x11223344#32)]) 0xE0F010B2#32 [.r0usr, .r1usr] [] =
    some (0, 0x4#32, 0x13#32, [0x1002#32, 0xF1E2#32], []) := by decide +kernel

/-- X23: `LDRSBT r1, [r0], #1`. -/
theorem test_X23_ldrsbt : ends (at_ 0x13#32 0x0#32 [(.r0usr, 0x1001#32)] [(0x1000#32, 0x8001F1E2#32), (0x1004#32, 0xCAFEBABE#32), (0x1008#32, 0x11223344#32)]) 0xE0F010D1#32 [.r0usr, .r1usr] [] =
    some (0, 0x4#32, 0x13#32, [0x1002#32, 0xFFFFFFF1#32], []) := by decide +kernel

/-- X24: `LDRSHT r1, [r0], #0`. -/
theorem test_X24_ldrsht : ends (at_ 0x13#32 0x0#32 [(.r0usr, 0x1002#32)] [(0x1000#32, 0x8001F1E2#32), (0x1004#32, 0xCAFEBABE#32), (0x1008#32, 0x11223344#32)]) 0xE0F010F0#32 [.r1usr] [] =
    some (0, 0x4#32, 0x13#32, [0xFFFF8001#32], []) := by decide +kernel

/-- X36: `LDRD with P=0, W=1 (no T variant)`. -/
theorem test_X36_ldrd : ends (at_ 0x10#32 0x0#32 [(.r0usr, 0x1000#32)] []) 0xE0E020D8#32 [.r0usr] [] =
    some (2, 0x0#32, 0x10#32, [0x1000#32], []) := by decide +kernel

/-- X39: `LDREX r1, [r0]`. -/
theorem test_X39_ldrex : ends (at_ 0x10#32 0x0#32 [(.r0usr, 0x1004#32)] [(0x1000#32, 0x8001F1E2#32), (0x1004#32, 0xCAFEBABE#32), (0x1008#32, 0x11223344#32)]) 0xE1901F9F#32 [.r1usr] [] =
    some (0, 0x4#32, 0x10#32, [0xCAFEBABE#32], []) := by decide +kernel

/-- X40: `STREX r2, r1, [r0] (store done)`. -/
theorem test_X40_strex : ends (at_ 0x10#32 0x0#32 [(.r0usr, 0x2000#32), (.r1usr, 0x55#32), (.r2usr, 0xFF#32)] []) 0xE1802F91#32 [.r2usr] [0x2000#32] =
    some (0, 0x4#32, 0x10#32, [0x0#32], [0x55#32]) := by decide +kernel

/-- X41: `STREX r2, r1, [r0] (not exclusive)`. -/
theorem test_X41_strex : ends (notExclusive (at_ 0x10#32 0x0#32 [(.r0usr, 0x2000#32), (.r1usr, 0x55#32), (.r2usr, 0xFF#32)] [])) 0xE1802F91#32 [.r2usr] [] =
    some (0, 0x4#32, 0x10#32, [0x1#32], []) := by decide +kernel

/-- L1: `LDR r2, [r3, #8]!`. -/
theorem test_L1_ldr : ends (at_ 0x10#32 0x0#32 [(.r3usr, 0x1000#32)] [(0x1000#32, 0x8001F1E2#32), (0x1004#32, 0xCAFEBABE#32), (0x1008#32, 0xDEADBEEF#32)]) 0xE5B32008#32 [.r2usr, .r3usr] [] =
    some (0, 0x4#32, 0x10#32, [0xDEADBEEF#32, 0x1008#32], []) := by decide +kernel

/-- L7: `LDRB r2, [r3], #-1`. -/
theorem test_L7_ldrb : ends (at_ 0x10#32 0x0#32 [(.r3usr, 0x1000#32)] [(0x1000#32, 0x8001F1E2#32), (0x1004#32, 0xCAFEBABE#32), (0x1008#32, 0xDEADBEEF#32)]) 0xE4532001#32 [.r2usr, .r3usr] [] =
    some (0, 0x4#32, 0x10#32, [0xE2#32, 0xFFF#32], []) := by decide +kernel

/-- L8: `STR r2, [r3, #4]!`. -/
theorem test_L8_str : ends (at_ 0x10#32 0x0#32 [(.r2usr, 0x12345678#32), (.r3usr, 0x2000#32)] []) 0xE5A32004#32 [.r3usr] [0x2004#32] =
    some (0, 0x4#32, 0x10#32, [0x2004#32], [0x12345678#32]) := by decide +kernel

/-- L9: `STRB r2, [r3, #1]`. -/
theorem test_L9_strb : ends (at_ 0x10#32 0x0#32 [(.r2usr, 0x12345678#32), (.r3usr, 0x2000#32)] [(0x2000#32, 0xAAAAAAAA#32)]) 0xE5C32001#32 [.r2usr, .r3usr] [0x2000#32] =
    some (0, 0x4#32, 0x10#32, [0x12345678#32, 0x2000#32], [0xAAAA78AA#32]) := by decide +kernel

/-- L10: `STR r2, [r3, -r4, LSL #2]`. -/
theorem test_L10_str : ends (at_ 0x10#32 0x0#32 [(.r2usr, 0x77#32), (.r3usr, 0x2010#32), (.r4usr, 0x4#32)] []) 0xE7032104#32 [.r2usr, .r3usr, .r4usr] [0x2000#32] =
    some (0, 0x4#32, 0x10#32, [0x77#32, 0x2010#32, 0x4#32], [0x77#32]) := by decide +kernel

/-- L13: `LDR r2, [r3, r4, ASR #32] (imm5=0: offset -1)`. -/
theorem test_L13_ldr : ends (at_ 0x10#32 0x0#32 [(.r3usr, 0x1000#32), (.r4usr, 0x80000000#32)] [(0xFFC#32, 0x99000000#32), (0x1000#32, 0x665544#32)]) 0xE7932044#32 [.r2usr] [] =
    some (0, 0x4#32, 0x10#32, [0x66554499#32], []) := by decide +kernel

/-- L18: `LDR r2, [pc, #4] (literal; pc=0x102 aligned down)`. -/
theorem test_L18_ldr : ends (at_ 0x10#32 0x102#32 [] [(0x10C#32, 0x600D#32)]) 0xE59F2004#32 [.r2usr] [] =
    some (0, 0x106#32, 0x10#32, [0x600D#32], []) := by decide +kernel

/-- L19: `LDRB r2, [pc, #0] (literal byte)`. -/
theorem test_L19_ldrb : ends (at_ 0x10#32 0x100#32 [] [(0x108#32, 0xAB#32)]) 0xE5DF2000#32 [.r2usr] [] =
    some (0, 0x104#32, 0x10#32, [0xAB#32], []) := by decide +kernel

/-- L20: `STR r2, [pc, #0] (store, Rn=15: base is pc+8 not aligned)`. -/
theorem test_L20_str : ends (at_ 0x10#32 0x102#32 [(.r2usr, 0x5#32)] []) 0xE58F2000#32 [.r2usr] [0x108#32] =
    some (0, 0x106#32, 0x10#32, [0x5#32], [0x50000#32]) := by decide +kernel

/-- L22: `STR r2, [r3] at 0xFFFFFFFE (bytes wrap)`. -/
theorem test_L22_str : ends (at_ 0x10#32 0x100#32 [(.r2usr, 0x44332211#32), (.r3usr, 0xFFFFFFFE#32)] []) 0xE5832000#32 [.r2usr, .r3usr] [0x0#32, 0xFFFFFFFC#32] =
    some (0, 0x104#32, 0x10#32, [0x44332211#32, 0xFFFFFFFE#32], [0x4433#32, 0x22110000#32]) := by decide +kernel

/-- L23: `LDRT r2, [r3], #4`. -/
theorem test_L23_ldrt : ends (at_ 0x13#32 0x0#32 [(.r3usr, 0x1000#32)] [(0x1000#32, 0x8001F1E2#32), (0x1004#32, 0xCAFEBABE#32), (0x1008#32, 0xDEADBEEF#32)]) 0xE4B32004#32 [.r2usr, .r3usr] [] =
    some (0, 0x4#32, 0x13#32, [0x8001F1E2#32, 0x1004#32], []) := by decide +kernel

/-- L24: `STRT r2, [r3], #-4`. -/
theorem test_L24_strt : ends (at_ 0x13#32 0x0#32 [(.r2usr, 0x1#32), (.r3usr, 0x2000#32)] []) 0xE4232004#32 [.r3usr] [0x2000#32] =
    some (0, 0x4#32, 0x13#32, [0x1FFC#32], [0x1#32]) := by decide +kernel

/-- L25: `LDRBT r2, [r3], r4`. -/
theorem test_L25_ldrbt : ends (at_ 0x13#32 0x0#32 [(.r3usr, 0x1003#32), (.r4usr, 0x1#32)] [(0x1000#32, 0x8001F1E2#32), (0x1004#32, 0xCAFEBABE#32), (0x1008#32, 0xDEADBEEF#32)]) 0xE6F32004#32 [.r2usr, .r3usr] [] =
    some (0, 0x4#32, 0x13#32, [0x80#32, 0x1004#32], []) := by decide +kernel

/-- L26: `STRBT r2, [r3], #1`. -/
theorem test_L26_strbt : ends (at_ 0x13#32 0x0#32 [(.r2usr, 0xABCD#32), (.r3usr, 0x2000#32)] []) 0xE4E32001#32 [.r3usr] [0x2000#32] =
    some (0, 0x4#32, 0x13#32, [0x2001#32], [0xCD#32]) := by decide +kernel

/-- B1: `STMDB sp!, {r0-r3, lr}`. -/
theorem test_B1_stmdb : ends (at_ 0x10#32 0x0#32 [(.r0usr, 0x1#32), (.r1usr, 0x2#32), (.r2usr, 0x3#32), (.r3usr, 0x4#32), (.r13usr, 0x2000#32), (.r14usr, 0x99#32)] []) 0xE92D400F#32 [.r13usr] [0x1FEC#32, 0x1FF0#32, 0x1FF4#32, 0x1FF8#32, 0x1FFC#32] =
    some (0, 0x4#32, 0x10#32, [0x1FEC#32], [0x1#32, 0x2#32, 0x3#32, 0x4#32, 0x99#32]) := by decide +kernel

/-- B4: `STMIB r0!, {r1, r2}`. -/
theorem test_B4_stmib : ends (at_ 0x10#32 0x0#32 [(.r0usr, 0x2000#32), (.r1usr, 0xA#32), (.r2usr, 0xB#32)] []) 0xE9A00006#32 [.r0usr] [0x2004#32, 0x2008#32] =
    some (0, 0x4#32, 0x10#32, [0x2008#32], [0xA#32, 0xB#32]) := by decide +kernel

/-- B5: `STMDA r0!, {r1, r2}`. -/
theorem test_B5_stmda : ends (at_ 0x10#32 0x0#32 [(.r0usr, 0x2000#32), (.r1usr, 0xA#32), (.r2usr, 0xB#32)] []) 0xE8200006#32 [.r0usr] [0x1FFC#32, 0x2000#32] =
    some (0, 0x4#32, 0x10#32, [0x1FF8#32], [0xA#32, 0xB#32]) := by decide +kernel

/-- B13: `STMIA r0, {r1, pc} (stores pc+8)`. -/
theorem test_B13_stmia : ends (at_ 0x10#32 0x100#32 [(.r0usr, 0x2000#32), (.r1usr, 0xA#32)] []) 0xE8808002#32 [.r0usr, .r1usr] [0x2000#32, 0x2004#32] =
    some (0, 0x104#32, 0x10#32, [0x2000#32, 0xA#32], [0xA#32, 0x108#32]) := by decide +kernel

/-- B7: `LDMIB r0, {r1, r2}`. -/
theorem test_B7_ldmib : ends (at_ 0x10#32 0x0#32 [(.r0usr, 0x1000#32)] [(0x1004#32, 0xA#32), (0x1008#32, 0xB#32)]) 0xE9900006#32 [.r1usr, .r2usr] [] =
    some (0, 0x4#32, 0x10#32, [0xA#32, 0xB#32], []) := by decide +kernel

/-- B8: `LDMDA r0!, {r1, r2}`. -/
theorem test_B8_ldmda : ends (at_ 0x10#32 0x0#32 [(.r0usr, 0x1000#32)] [(0xFFC#32, 0xA#32), (0x1000#32, 0xB#32)]) 0xE8300006#32 [.r0usr, .r1usr, .r2usr] [] =
    some (0, 0x4#32, 0x10#32, [0xFF8#32, 0xA#32, 0xB#32], []) := by decide +kernel

/-- B9: `LDMDB r0!, {r1, r2}`. -/
theorem test_B9_ldmdb : ends (at_ 0x10#32 0x0#32 [(.r0usr, 0x1000#32)] [(0xFF8#32, 0xA#32), (0xFFC#32, 0xB#32)]) 0xE9300006#32 [.r0usr, .r1usr, .r2usr] [] =
    some (0, 0x4#32, 0x10#32, [0xFF8#32, 0xA#32, 0xB#32], []) := by decide +kernel

/-- B11: `LDMIA sp!, {r4, pc} (loads pc)`. -/
theorem test_B11_ldmia : ends (at_ 0x10#32 0x100#32 [(.r13usr, 0x1FF8#32)] [(0x1FF8#32, 0x44#32), (0x1FFC#32, 0x8001#32)]) 0xE8BD8010#32 [.r4usr, .r13usr] [] =
    some (0, 0x8001#32, 0x10#32, [0x44#32, 0x2000#32], []) := by decide +kernel

/-- H1: `CPSID if`. -/
theorem test_H1_cpsid : ends (at_ 0x13#32 0x0#32 [] []) 0xEF0300C0#32 [] [] =
    some (0, 0x4#32, 0xD3#32, [], []) := by decide +kernel

/-- H12: `MRS r0, CPSR`. -/
theorem test_H12_mrs : ends (at_ 0x600001D3#32 0x0#32 [] []) 0xEF040000#32 [.r0usr] [] =
    some (0, 0x4#32, 0x600001D3#32, [0x600001D3#32], []) := by decide +kernel

/-- H18: `MSR CPSR_c, #0xD3`. -/
theorem test_H18_msr : ends (at_ 0x1F#32 0x0#32 [] []) 0xEF0810D3#32 [] [] =
    some (0, 0x4#32, 0xD3#32, [], []) := by decide +kernel

/-- H22: `MSR CPSR_fsxc, r0 in User mode (only 0xF80F0000 writable)`. -/
theorem test_H22_msr : ends (at_ 0x10#32 0x0#32 [(.r0usr, 0xFFFFFFFF#32)] []) 0xEF0CF000#32 [.r0usr] [] =
    some (0, 0x4#32, 0xF80F0010#32, [0xFFFFFFFF#32], []) := by decide +kernel

/-- H36: `WFI in User mode`. -/
theorem test_H36_wfi : ends (at_ 0x10#32 0x40#32 [] []) 0xEF180000#32 [] [] =
    some (0, 0x44#32, 0x10#32, [], []) := by decide +kernel

/-- T1: `RFEIA r13!`. -/
theorem test_T1_rfeia : ends (at_ 0x12#32 0x0#32 [(.r13irq, 0x3000#32)] [(0x3000#32, 0x80000000#32), (0x3004#32, 0x10#32)]) 0xEF11800D#32 [.r13irq] [] =
    some (0, 0x80000000#32, 0x10#32, [0x3008#32], []) := by decide +kernel

/-- T7: `RFEIA r13 loading an illegal mode (refused after the two reads)`. -/
theorem test_T7_rfeia : ends (at_ 0x12#32 0x0#32 [(.r13irq, 0x3000#32)] [(0x3000#32, 0x8000#32), (0x3004#32, 0x0#32)]) 0xEF11800D#32 [.r13irq] [] =
    some (2, 0x0#32, 0x12#32, [0x3000#32], []) := by decide +kernel

/-- T12: `SRSDB sp!, #0x13 from IRQ mode`. -/
theorem test_T12_srsdb : ends ((at_ 0x12#32 0x18#32 [(.r14irq, 0x8004#32), (.r13svc, 0x4000#32)] []).setSpsrOf .irq 0x60000010#32) 0xEF168013#32 [.r13svc] [0x3FF8#32, 0x3FFC#32] =
    some (0, 0x1C#32, 0x12#32, [0x3FF8#32], [0x8004#32, 0x60000010#32]) := by decide +kernel

/-- T20: `LDMIA sp!, {r0, pc}^ (exception return)`. -/
theorem test_T20_ldmia : ends ((at_ 0x12#32 0x0#32 [(.r13irq, 0x3000#32)] [(0x3000#32, 0x5#32), (0x3004#32, 0x8000#32)]).setSpsrOf .irq 0x60000010#32) 0xEFBD8001#32 [.r0usr, .r13irq] [] =
    some (0, 0x8000#32, 0x60000010#32, [0x5#32, 0x3008#32], []) := by decide +kernel

/-- T29: `LDMIA sp, {r0, r13}^ in IRQ mode (base from the current bank)`. -/
theorem test_T29_ldmia : ends (at_ 0x12#32 0x0#32 [(.r13usr, 0x1111#32), (.r13irq, 0x3000#32)] [(0x3000#32, 0x5#32), (0x3004#32, 0xD#32)]) 0xEFAD2001#32 [.r0usr, .r13usr] [] =
    some (0, 0x4#32, 0x12#32, [0x5#32, 0xD#32], []) := by decide +kernel

/-- T36: `STMDB sp, {r8, r13, pc}^ in FIQ mode`. -/
theorem test_T36_stmdb : ends (at_ 0x11#32 0x100#32 [(.r8usr, 0x88#32), (.r13usr, 0x1111#32), (.r8fiq, 0x99#32), (.r13fiq, 0x2010#32)] []) 0xEF6DA100#32 [.r8usr, .r13usr, .r8fiq, .r13fiq] [0x2004#32, 0x2008#32, 0x200C#32] =
    some (0, 0x104#32, 0x11#32, [0x88#32, 0x1111#32, 0x99#32, 0x2010#32], [0x88#32, 0x1111#32, 0x108#32]) := by decide +kernel

/-- T41: `SUBS pc, lr, #4`. -/
theorem test_T41_subs : ends ((at_ 0x12#32 0x0#32 [(.r14irq, 0x8008#32)] []).setSpsrOf .irq 0x60000010#32) 0xEF32E004#32 [.r14irq] [] =
    some (0, 0x8004#32, 0x60000010#32, [0x8008#32], []) := by decide +kernel

/-- T42: `MOVS pc, lr`. -/
theorem test_T42_movs : ends ((at_ 0x13#32 0x0#32 [(.r14svc, 0x8000#32)] []).setSpsrOf .svc 0x1F#32) 0xEF2D000E#32 [.r14svc] [] =
    some (0, 0x8000#32, 0x1F#32, [0x8000#32], []) := by decide +kernel

/-- T44: `ADDS pc, r0, r1, LSL #2`. -/
theorem test_T44_adds : ends (at_ 0x1B#32 0x0#32 [(.r0usr, 0x8000#32), (.r1usr, 0x4#32)] []) 0xEF240101#32 [.r0usr, .r1usr] [] =
    some (0, 0x8010#32, 0x10#32, [0x8000#32, 0x4#32], []) := by decide +kernel

/-- T45: `ADCS pc, lr, #0 with C=1 (carry-in used, result flags discarded)`. -/
theorem test_T45_adcs : ends (at_ 0x20000013#32 0x0#32 [(.r14svc, 0x8000#32)] []) 0xEF35E000#32 [.r14svc] [] =
    some (0, 0x8001#32, 0x10#32, [0x8000#32], []) := by decide +kernel

/-- T46: `MVNS pc, #0 (unaligned result, passed as is)`. -/
theorem test_T46_mvns : ends (at_ 0x13#32 0x0#32 [] []) 0xEF3F0000#32 [] [] =
    some (0, 0xFFFFFFFF#32, 0x10#32, [], []) := by decide +kernel

/-- E5: `BNE . with Z=1 (condition false, still refused)`. -/
theorem test_E5_bne : ends (at_ 0x40000010#32 0x0#32 [] []) 0x1AFFFFFE#32 [] [] =
    some (2, 0x0#32, 0x40000010#32, [], []) := by decide +kernel

/-- G1: `LDR r2, [r3, #8]! with the read faulting (no write-back, pc kept)`. -/
theorem test_G1_ldr : ends (faulting 0x1008#32 (at_ 0x10#32 0x40#32 [(.r3usr, 0x1000#32)] [])) 0xE5B32008#32 [.r3usr] [] =
    some (1, 0x40#32, 0x10#32, [0x1000#32], []) := by decide +kernel

/-- G4: `STRD r2, r3, [r0] with the second write faulting (first word stays written)`. -/
theorem test_G4_strd : ends (faulting 0x2004#32 (at_ 0x10#32 0x40#32 [(.r0usr, 0x2000#32), (.r2usr, 0xA#32), (.r3usr, 0xB#32)] [])) 0xE1C020F0#32 [.r0usr, .r2usr, .r3usr] [0x2000#32] =
    some (1, 0x40#32, 0x10#32, [0x2000#32, 0xA#32, 0xB#32], [0xA#32]) := by decide +kernel

/-- G5: `LDMIA r0!, {r1-r3} with the third read faulting (r1, r2 loaded, no write-back)`. -/
theorem test_G5_ldmia : ends (faulting 0x1008#32 (at_ 0x10#32 0x40#32 [(.r0usr, 0x1000#32)] [(0x1000#32, 0x1#32), (0x1004#32, 0x2#32), (0x1008#32, 0x3#32)])) 0xE8B0000E#32 [.r1usr, .r2usr] [] =
    some (1, 0x40#32, 0x10#32, [0x1#32, 0x2#32], []) := by decide +kernel
/-! ### Coprocessors and events, one step each -/

/-- K1: `MCR p15, 0, r0, c1, c0, 0`, on p7: the register under the key gets `r0`. -/
theorem test_K1_mcr : (after (withCop RefCop.reset (at_ 0x10#32 0#32 [(.r0usr, 0x55#32)] [])) 0xEE010710#32).map (fun t => t.cop 7#4) =
    some (some ⟨Hooks.all, .reference { RefCop.reset with reg := [(regKey 0#3 0#3 1#4 0#4, 0x55#32)] }⟩) := by decide +kernel

/-- K3: `MRC p15, 0, APSR_nzcv, c1, c0, 0`, on p7: the four flags and no register. -/
theorem test_K3_mrc : ends (withCop { RefCop.reset with reg := [(regKey 0#3 0#3 1#4 0#4, 0xA0000055#32)] } (at_ 0x50000010#32 0#32 [] []))
    0xEE11F710#32 [.r0usr, .r14usr] [] = some (0, 4#32, 0xA0000010#32, [0#32, 0#32], []) := by decide +kernel

/-- K9: `MRRC p15, 3, r4, r5, c2`, on p7. -/
theorem test_K9_mrrc : ends (withCop { RefCop.reset with pair := [(pairKey 3#4 2#4, (0x11#32, 0x22#32))] } (at_ 0x10#32 0#32 [] []))
    0xEC554732#32 [.r4usr, .r5usr] [] = some (0, 4#32, 0x10#32, [0x11#32, 0x22#32], []) := by decide +kernel

/-- K13: `CDP p7, 0, c3, c1, c2, 0`: `w[3] = w[1] + w[2]`. -/
theorem test_K13_cdp :
    (after (withCop (setRefCopWord (setRefCopWord RefCop.reset 1 0xFFFFFFFF#32) 2 3#32) (at_ 0x10#32 0#32 [] [])) 0xEE013702#32).map
      (fun t => (t.cop 7#4).map CopObject.unit) =
    some (some (.reference (setRefCopWord (setRefCopWord (setRefCopWord RefCop.reset 1 0xFFFFFFFF#32) 2 3#32) 3 2#32))) := by decide +kernel

/-- K16: `LDCL p7, c2, [r0], #8`: four words, post-indexed. -/
theorem test_K16_ldc :
    (after (withCop RefCop.reset (at_ 0x10#32 0#32 [(.r0usr, 0x1000#32)] [(0x1000#32, 1#32), (0x100C#32, 4#32)])) 0xECF02702#32).map
      (fun t => ((t.cop 7#4).map CopObject.unit, t.x 0#4)) =
    some (some (.reference (setRefCopWord (setRefCopWord RefCop.reset 2 1#32) 5 4#32)), 0x1008#32) := by decide +kernel

/-- K18: `STC p7, c1, [r0]`: two words. -/
theorem test_K18_stc : ends (withCop (setRefCopWord (setRefCopWord RefCop.reset 1 0xA#32) 2 0xB#32) (at_ 0x10#32 0#32 [(.r0usr, 0x2000#32)] []))
    0xED801700#32 [.r0usr] [0x2000#32, 0x2004#32] = some (0, 4#32, 0x10#32, [0x2000#32], [0xA#32, 0xB#32]) := by decide +kernel

/-- R322, R424: MCR with no coprocessor registered. -/
theorem test_mcr_absent : ends (at_ 0x10#32 0x40#32 [] []) 0xEE010F10#32 [] [] = some (3, 0x40#32, 0x10#32, [], []) := by decide +kernel

/-- H35: WFI emits the wait. -/
theorem test_H35_wfi : (after (at_ 0x13#32 0x40#32 [] []) 0xEF180000#32).map State.events = some [.irqWait] := by decide +kernel

/-- B5: the two ranges of a transfer that crosses a page, then the writes in ascending order. -/
theorem test_B5_events : (after (at_ 0x10#32 0#32 [(.r0usr, 0x2000#32), (.r1usr, 0xA#32), (.r2usr, 0xB#32)] []) 0xE8200006#32).map State.events =
    some [.range 0x1FFC#32 4, .range 0x2000#32 4, .write 0x1FFC#32 .word 0xA#32 false, .write 0x2000#32 .word 0xB#32 false] := by
  decide +kernel

/-- L23: the T variant asks for user privilege. -/
theorem test_L23_events : (after (at_ 0x13#32 0#32 [(.r3usr, 0x1000#32)] []) 0xE4B32004#32).map State.events =
    some [.read 0x1000#32 .word true] := by decide +kernel

/-! ### The step -/

/-- The word that `withFetchWord` stores is the one the next step runs (S1). -/
theorem test_step_withFetchWord : step (State.reset.withFetchWord 32 0xE3A00012) =
    exec (.movImmediate 14#4 false 0#4 0#4 0x012#12) (State.reset.withFetchWord 32 0xE3A00012).begin := rfl

/-- The step of the reset state: a word of zeros is ANDEQ, whose condition fails (R48, R103). -/
theorem test_step_reset : step State.reset = .next { State.reset with pc := 4#32, result := some .ok } := rfl

/-- `hyp = 1` on a word outside the SVC space is refused (E28). -/
theorem test_E28_hyp : decode true 0xE3A00012#32 = .error .hypFlagOutsideSvc := rfl

/-- R461, R466: the coprocessors a program names, at reset. -/
theorem test_harnessStart : (harnessStart [7#4, 15#4] []).cop 15#4 = some ⟨Hooks.all, .reference ⟨[], [], Vector.replicate 32 0#32⟩⟩ ∧
    (harnessStart [7#4, 15#4] []).cop 14#4 = none ∧ (harnessStart [] [(0xFFFFFFFE#32, 0x44332211#32)]).mem.read32 0#32 = 0x4433#32 := by
  decide +kernel

/-- R466: `MOV r0, #0x12`, then `B`, started with the hypercall flag set: both are invoked with `hyp = 0`, and the B ends the run. -/
theorem test_runHarness :
    (runHarness 5 { harnessStart [] [(0#32, 0xE3A00012#32), (4#32, 0xEAFFFFFE#32)] with hyp := true }).trace =
      [(0xE3A00012#32, some .ok), (0xEAFFFFFE#32, some (.unpredictable .branch))] ∧
    (runHarness 5 (harnessStart [] [(0#32, 0xE3A00012#32), (4#32, 0xEAFFFFFE#32)])).stop = .notOk ∧
    (runHarness 2 (harnessStart [] [(0#32, 0xE3A00012#32)])).stop = .maxSteps := by decide +kernel

/-- The last two invocations of program P5: with the coprocessor absent the MCR ends the run, undefInjected, the vCPU not halted. -/
theorem test_runHarness_undef : (runHarness 9 (harnessStart [15#4] [(0#32, 0xE3A03001#32), (4#32, 0xEE000E10#32)])).stop = .notOk ∧
    (runHarness 9 (harnessStart [15#4] [(0#32, 0xE3A03001#32), (4#32, 0xEE000E10#32)])).trace.map Prod.snd = [some .ok, some .undefInjected] ∧
    (runHarness 9 (harnessStart [15#4] [(0#32, 0xE3A03001#32), (4#32, 0xEE000E10#32)])).state.halted = false := by decide +kernel

/-! ### Well-formedness: an ill-formed term for each check -/

/-- `Rn = 1111` in an immediate load is the literal row (R98, R220). -/
theorem test_illFormed_notLiteral :
    (Instr.ldrImmediate 14#4 .offset true 15#4 0#4 0#12).wellFormed = false ∧ (Instr.ldrbImmediate 14#4 .offset true 15#4 0#4 0#12).wellFormed = false ∧
    (Instr.ldrhImmediate 14#4 .offset true 15#4 0#4 0#8).wellFormed = false ∧ (Instr.ldrdImmediate 14#4 .offset true 15#4 0#4 0#8).wellFormed = false ∧
    (Instr.ldrsbImmediate 14#4 .offset true 15#4 0#4 0#8).wellFormed = false ∧ (Instr.ldrshImmediate 14#4 .offset true 15#4 0#4 0#8).wellFormed = false ∧
    (Instr.ldcImmediate 14#4 true true false false 15#4 0#4 7#4 0#8).wellFormed = false := by decide

/-- Coprocessors 10 and 11 are another space (R101, R321). -/
theorem test_illFormed_coproc :
    (Instr.mcr 14#4 0#3 0#4 0#4 10#4 0#3 0#4).wellFormed = false ∧ (Instr.mrc 14#4 0#3 0#4 0#4 11#4 0#3 0#4).wellFormed = false ∧
    (Instr.cdp 14#4 0#4 0#4 0#4 10#4 0#3 0#4).wellFormed = false ∧ (Instr.mcrr 14#4 0#4 0#4 11#4 0#4 0#4).wellFormed = false ∧
    (Instr.mrrc 14#4 0#4 0#4 10#4 0#4 0#4).wellFormed = false ∧ (Instr.cpSpace1100000x 14#4 false 0#4 0#4 11#4 0#8).wellFormed = false ∧
    (Instr.stc 14#4 true true false false 0#4 0#4 10#4 0#8).wellFormed = false ∧
    (Instr.ldcLiteral 14#4 true true false false 0#4 11#4 0#8).wellFormed = false := by decide

/-- `P = U = W = 0` is no LDC or STC (R101). -/
theorem test_illFormed_transferMode :
    (Instr.stc 14#4 false false true false 0#4 0#4 7#4 0#8).wellFormed = false ∧
    (Instr.ldcImmediate 14#4 false false true false 0#4 0#4 7#4 0#8).wellFormed = false ∧
    (Instr.ldcLiteral 14#4 false false true false 0#4 7#4 0#8).wellFormed = false := by decide

/-- Bits 25:24 = 11 are the SVC space, not the coprocessor one (R101). -/
theorem test_illFormed_vfpSpace : (Instr.vfpSpace 14#4 3#2 0#12 false 0#8).wellFormed = false := by decide

/-- Bit 15 of the list tells the two hypercall LDM rows apart (R383, R384). -/
theorem test_illFormed_hypLdm :
    (Instr.hypLdmExceptionReturn 14#4 false true false 0#4 0x7FFF#16).wellFormed = false ∧
    (Instr.hypLdmUserRegisters 14#4 false true false 0#4 0x8000#16).wellFormed = false := by decide

/-! ### Witnesses: the hypotheses of each statement are met together -/

/-- A User-mode state, a Supervisor one with a saved status, and one whose port faults. -/
def wUser : State := at_ 0x10#32 0x100#32 [(.r0usr, 0x1000#32), (.r2usr, 4#32)] [(0x1000#32, 0xFFFFFFFF#32)]
/-- Supervisor mode, returning to User mode, with the words of a return at 0x1000. -/
def wSvc : State := at_ 0x13#32 0x100#32 [(.r0usr, 0x1000#32), (.r13svc, 0x2000#32)] [(0x1000#32, 0x8000#32), (0x1004#32, 0x10#32)]
/-- Supervisor mode with an illegal mode in the saved status and in memory. -/
def wBad : State := (at_ 0x13#32 0x100#32 [(.r0usr, 0x1000#32)] []).setSpsrOf .svc 0#32
/-- A byte at 0x1000 faults. -/
def wFault : State := faulting 0x1000#32 wUser
/-- A reference coprocessor at 7. -/
def wCop : State := withCop RefCop.reset wUser
/-- The same with the word after the one at 0x1000 alone refused. -/
def wSecond : State := faulting 0x1004#32 wUser
/-- In Supervisor mode, the word at 0x1FFC alone refused. -/
def wStack : State := faulting 0x1FFC#32 wSvc
/-- The start of a program: `MOV r0, #0x12`, `B`, and a word of no row. -/
def wRun : State := harnessStart [7#4] [(0#32, 0xE3A00012#32), (4#32, 0xEAFFFFFE#32), (8#32, 0xE320F000#32)]
/-- The same with a coprocessor at number 7 of which the spec says nothing. -/
def wExternal : State := { wUser with coprocs := wUser.coprocs.set 7 (some ⟨Hooks.all, .external 4⟩) }
/-- The same with a reference coprocessor at number 7 that lacks the hooks `write` and `ldcstc_write`. -/
def wLacks : State := { wUser with coprocs := wUser.coprocs.set 7 (some ⟨{ Hooks.all with write := false, ldcstcWrite := false }, .reference RefCop.reset⟩) }

theorem test_witness_BitOpsRules : (0 ≤ 31 ∧ 31 ≤ 31) ∧ (31 ≤ 31 ∧ 31 ≤ 31) := by decide
theorem test_witness_ShifterLaws : (1 ≤ 1 ∧ 1 ≤ 31) ∧ (1 ≤ 31 ∧ 31 ≤ 31) := by decide
/-- The amounts at which the clauses meet: 32 for the carries, 33 above. -/
theorem test_witness_ShifterValues : (1 ≤ 32 ∧ 32 ≤ 32) ∧ (1 ≤ 33 ∧ 32 < 33) ∧ ShiftType.lsl ≠ .rrx := by decide
theorem test_witness_BlockAddresses : (1#16 ≠ 0#16 ∧ blockLength 1#16 = 4) ∧ (0xFFFF#16 ≠ 0#16 ∧ blockLength 0xFFFF#16 = 64) := by decide
/-- 64 bytes fill a page of 64 exactly, or cross from its second byte. -/
theorem test_witness_RangeEventsSplit : pageSizeOk 64 = true ∧ 4 < 64 ∧ 64 ≤ 64 ∧ (0#32).toNat % 64 + 64 ≤ 64 ∧ 64 < (1#32).toNat % 64 + 64 := by decide
theorem test_witness_BankedAccess : (14#4 : RegIdx) ≠ 15#4 ∧ bank .svc 14#4 ≠ bank .irq 14#4 ∧ bank .usr 14#4 = bank .sys 14#4 := by decide
/-- A legal write, an illegal mode in a privileged mode, and User mode. -/
theorem test_witness_CpsrUpdateMasked :
    (∃ t, wSvc.cpsrUpdate 0x1F#32 0xFF#32 = some t) ∧ wSvc.cpsrUpdate 0#32 0xFF#32 = none ∧ wSvc.mode ≠ .usr ∧
    legalMode (wSvc.cpsr &&& ~~~0xFF#32 ||| 0#32 &&& 0xFF#32) = false ∧ wUser.mode = .usr ∧ legalMode wUser.cpsr = true :=
  ⟨⟨_, rfl⟩, by decide +kernel, by decide +kernel, by decide +kernel, by decide +kernel, by decide +kernel⟩
theorem test_witness_MemoryReadsAndWrites : wUser.mem.wf = true ∧ 3 < sizeBytes .word ∧ within 0xFFFFFFFE#32 4 1#32 ∧ ¬ within 0xFFFFFFFE#32 4 2#32 :=
  ⟨by decide +kernel, by decide, by unfold within; decide, by unfold within; decide⟩
theorem test_witness_plainMemory : PlainMemory wUser ∧ PlainMemory wSvc ∧ PlainMemory wBad ∧ PlainMemory wCop :=
  ⟨⟨true, rfl⟩, ⟨true, rfl⟩, ⟨true, rfl⟩, ⟨true, rfl⟩⟩
/-- A state of the invariant and its step. -/
theorem test_witness_StepKeepsInv : Inv wCop ∧ ∃ t, step wCop = .next t :=
  ⟨⟨by decide +kernel, by decide +kernel, by decide +kernel, by decide +kernel, ⟨(absurd · (by decide)), fun ⟨_, h⟩ => absurd h nofun⟩⟩, _, rfl⟩
theorem test_witness_DecodeEncode : (Instr.movw 14#4 3#4 0xBEEF#16).wellFormed = true ∧ encode (.movw 14#4 3#4 0xBEEF#16) = 0xE30B3EEF#32 := by
  decide +kernel
/-- A word with unexamined bits set; a compare, which selects no instruction, and MOV, which does. -/
theorem test_witness_DecodedWellFormed : decodeIn .h0 true 0xEF18FFFF#32 = .ok (.hypWfi 14#4) ∧ decode true 0xEF18FFFF#32 = .ok (.hypWfi 14#4) ∧
    decode false 0xE1500001#32 = .error .compare ∧ unmapped 0xE1500001#32 = true ∧ unmapped 0xE3A00012#32 = false := by decide +kernel
theorem test_witness_HypercallEntries : (0xEF180000#32 : Word).extractLsb' 24 4 = 15#4 ∧ (0xEE180000#32 : Word).extractLsb' 24 4 ≠ 15#4 := by
  decide
/-- A word that decodes, one that does not, and the three preconditions. -/
theorem test_witness_step :
    decodeIn wUser.hypLayout wUser.hyp (wUser.mem.read32 0#32) = .ok (.andRegister 0#4 false 0#4 0#4 0#5 0#2 0#4) ∧
    decodeIn .h0 false ((at_ 0x10#32 0#32 [] [(0#32, 0xE320F000#32)]).mem.read32 0#32) = .error .msrImmediateHints ∧
    wUser.halted = false ∧ legalMode wUser.cpsr = true ∧ pageSizeOk wUser.ttblMinPageSize = true ∧
    { wUser with halted := true }.halted = true ∧ legalMode { wUser with cpsr := 0#32 }.cpsr = false ∧
    pageSizeOk { wUser with ttblMinPageSize := 63 }.ttblMinPageSize = false := by decide +kernel
/-- A state of the invariant with the harness's ports, whose word decodes, ends Ok and ends otherwise; a word that does not decode. -/
theorem test_witness_ReferenceHarness :
    Inv wRun ∧ HarnessPorts wRun ∧ wRun.halted = false ∧ decodeIn wRun.hypLayout false (wRun.mem.read32 wRun.pc) = .ok (.movImmediate 14#4 false 0#4 0#4 0x12#12) ∧
    (∃ t, exec (.movImmediate 14#4 false 0#4 0#4 0x12#12) { wRun with hyp := false, events := [], result := none } = .next t ∧ t.result = some .ok) ∧
    decodeIn wRun.hypLayout false ({ wRun with pc := 4#32 }.mem.read32 4#32) = .ok (.b 14#4 0xFFFFFE#24) ∧
    (∃ t, exec (.b 14#4 0xFFFFFE#24) { wRun with pc := 4#32, hyp := false, events := [], result := none } = .next t ∧ t.result ≠ some .ok) ∧
    decodeIn wRun.hypLayout false ({ wRun with pc := 8#32 }.mem.read32 8#32) = .error .msrImmediateHints :=
  ⟨⟨by decide +kernel, by decide +kernel, by decide +kernel, by decide +kernel, ⟨(absurd · (by decide)), fun ⟨_, h⟩ => absurd h nofun⟩⟩,
    ⟨⟨[], true, rfl⟩, fun n o h => by
      have k : ∀ n : BitVec 4, wRun.cop n = none ∨ wRun.cop n = some ⟨Hooks.all, .reference RefCop.reset⟩ := by decide +kernel
      obtain e | e := k n <;> rw [e] at h <;> cases h
      exact ⟨_, rfl⟩⟩,
    rfl, by decide +kernel, ⟨_, rfl, rfl⟩, by decide +kernel, ⟨_, rfl, nofun⟩, by decide +kernel⟩
/-- B, BL and a media word at the PC. -/
theorem test_witness_BranchAndMediaWordsRefused :
    (0xEAFFFFFE#32 : Word).extractLsb' 24 4 = 0xA#4 ∧ (0xEB000000#32 : Word).extractLsb' 24 4 = 0xB#4 ∧
    (0xE6EF0070#32 : Word).extractLsb' 25 3 = 3#3 ∧ (0xE6EF0070#32 : Word).getLsbD 4 = true ∧
    (at_ 0x10#32 0#32 [] [(0#32, 0xEAFFFFFE#32)]).mem.read32 0#32 = 0xEAFFFFFE#32 := by decide +kernel
/-- A failed condition, before which the word is executed or is refused. -/
theorem test_witness_ConditionFalse :
    condPassed (Instr.cond (.movw 0#4 3#4 1#16)) wUser.cpsr = false ∧ condPassed (Instr.cond (.b 0#4 0#24)) wUser.cpsr = false ∧
    (0x40000010#32 : Word).extractLsb' 0 28 = wUser.cpsr.extractLsb' 0 28 ∧ condPassed 0#4 0x40000010#32 = true ∧
    condPassed 0#4 wSvc.cpsr = false ∧ MsrSource.legal (.imm 0#12) = true ∧ hasSpsr wSvc.mode = true ∧ wSvc.mode ≠ .usr ∧
    (0#4 : RegIdx) ≠ 15#4 := by decide +kernel
theorem test_witness_InvocationEnds :
    isTransferLoop (.b 14#4 0#24) = false ∧ (∀ (n : BitVec 4) (o : CopObject), wUser.cop n = some o → ∃ r, o.unit = .reference r) :=
  ⟨rfl, fun n o h => absurd h (by
    have : ∀ n : BitVec 4, wUser.cop n = none := by decide +kernel
    simp [this n])⟩
/-- B, and RFE of an illegal mode after its reads. -/
theorem test_witness_RefusalKeepsState :
    (∃ t, exec (.b 14#4 0#24) wUser = .next t ∧ t.result = some (.unpredictable .branch)) ∧
    (∃ t, exec (.hypRfe 14#4 false true true 0#4) wBad = .next t ∧ t.result = some (.unpredictable .illegalMode)) :=
  ⟨⟨_, rfl, rfl⟩, ⟨_, rfl, rfl⟩⟩
theorem test_witness_GuestFaultStops :
    ∃ t, exec (.ldrImmediate 14#4 .offset true 0#4 1#4 0#12) wFault = .next t ∧ t.result = some (.guestFault 5) := ⟨_, rfl, rfl⟩
theorem test_witness_UndefInjectedKeepsState :
    ∃ t, exec (.mcr 14#4 0#3 1#4 0#4 15#4 0#3 0#4) wUser = .next t ∧ t.result = some .undefInjected := ⟨_, rfl, rfl⟩
theorem test_witness_UserModeConfined : legalMode wUser.cpsr = true ∧ wUser.mode = .usr ∧
    ∃ t, exec (.hypMsrImmediate 14#4 false 15#4 0x0D3#12) wUser = .next t ∧ t.result = some .ok := ⟨rfl, rfl, _, rfl, rfl⟩
/-- An instruction outside each of the three classes. -/
theorem test_witness_StatusWriters : (∃ t, exec (.hypWfi 14#4) wUser = .next t) ∧ ¬ writesSpsr (.hypWfi 14#4) ∧ ¬ writesCpsr (.hypWfi 14#4) ∧
    ¬ setsFlags (.hypWfi 14#4) := by
  refine ⟨⟨_, rfl⟩, ?_, ?_, ?_⟩
  · rintro ⟨_, _, _ | _, h⟩ <;> cases h
  · rintro (⟨_, _, _, _, _, _, _, h⟩ | ⟨_, _, _ | _, h⟩ | ⟨_, _, _, _, _, h⟩ | ⟨_, _, _, _, _, _, h⟩ | ⟨o, _, _, _ | _, h⟩)
    · cases h
    · cases h
    · cases h
    · cases h
    · cases h
    · cases o <;> cases h
    · cases o <;> cases h
  · rintro (⟨o, _, _, _, _ | _, h⟩ | ⟨_, _, _, _, _, _, h⟩)
    · cases o <;> cases h
    · cases o <;> cases h
    · cases h
theorem test_witness_DataProcessingResult : (14#4 : RegIdx) ≠ 15#4 ∧ condPassed 14#4 wUser.cpsr = true ∧ condPassed 15#4 wUser.cpsr = true := by
  decide +kernel
/-- Offset and pre-indexed, immediate and register; a base at the top of the space. -/
theorem test_witness_LoadResult :
    (LoadForm.instr 14#4 .offset true 15#4 1#4 (.ldr (.reg 0#5 0#2 14#4))).wellFormed = true ∧
    (LoadForm.instr 14#4 .preIndexed true 0#4 14#4 (.ldrh (.imm 0xFF#8))).wellFormed = true ∧
    baseLegal .offset 15#4 1#4 = true ∧ baseLegal .preIndexed 0#4 14#4 = true ∧
    LoadForm.offsetLegal (.ldr (.reg 0#5 0#2 14#4)) = true ∧ LoadForm.offsetLegal (.ldrh (.imm 0xFF#8)) = true ∧
    condPassed 14#4 wUser.cpsr = true ∧ transferAddress .preIndexed true (wUser.x 0#4) (LoadForm.offset wUser (.ldrh (.imm 0xFF#8))) = 0x10FF#32 ∧
    wUser.portCode (wUser.readAccess 0x10FF#32 .half false) = 0 := by decide +kernel
theorem test_witness_LoadLiteralResult : (1#4 : RegIdx) ≠ 15#4 ∧ condPassed 14#4 wUser.cpsr = true ∧
    offsetAddress false ((wUser.pc + 8#32) &&& ~~~3#32) (LoadForm.offset wUser (LiteralLoad.form (.ldr 0xFFF#12))) = 0xFFFFF109#32 ∧
    wUser.portCode (wUser.readAccess 0xFFFFF109#32 .word false) = 0 := by decide +kernel
theorem test_witness_LoadUnprivilegedResult : unprivilegedLegal 0#4 1#4 = true ∧ LoadForm.offsetLegal (.ldrsb (.reg 2#4)) = true ∧
    condPassed 14#4 wSvc.cpsr = true ∧ wSvc.portCode (wSvc.readAccess (wSvc.x 0#4) .byte true) = 0 := by decide +kernel
theorem test_witness_StoreResult : wUser.mem.wf = true ∧ baseLegal .preIndexed 0#4 1#4 = true ∧ StoreForm.offsetLegal (.strb (.reg 0#5 0#2 2#4)) = true ∧
    condPassed 14#4 wUser.cpsr = true ∧
    transferAddress .preIndexed false (wUser.x 0#4) (StoreForm.offset wUser (.strb (.reg 0#5 0#2 2#4))) = 0xFFC#32 ∧
    wUser.portCode (wUser.writeAccess 0xFFC#32 .byte (wUser.x 1#4) false) = 0 := by decide +kernel
theorem test_witness_StoreUnprivilegedResult : wSvc.mem.wf = true ∧ unprivilegedLegal 0#4 1#4 = true ∧ StoreForm.offsetLegal (.strh (.imm 0xFF#8)) = true ∧
    condPassed 14#4 wSvc.cpsr = true ∧ wSvc.portCode (wSvc.writeAccess (wSvc.x 0#4) .half (wSvc.x 1#4) true) = 0 := by decide +kernel
/-- The pair r12, r13 is the last legal one; both descriptors. -/
theorem test_witness_DoublewordResults : (ldrdInstr 14#4 .postIndexed true 0#4 12#4 (.imm 0xFF#8)).wellFormed = true ∧
    doubleLegal .postIndexed 0#4 12#4 = true ∧ doubleLegal .offset 15#4 12#4 = true ∧ ldrdOffsetLegal 12#4 (.reg 14#4) = true ∧
    ExtraOffset.legal (.reg 12#4) = true ∧ (12#4 : RegIdx).getLsbD 0 = false ∧ (12#4 : RegIdx) ≠ 14#4 ∧ wUser.mem.wf = true ∧
    condPassed 14#4 wUser.cpsr = true := by decide +kernel
/-- LDREX; STREX with either answer of the port. -/
theorem test_witness_ExclusiveResults : (1#4 : RegIdx) ≠ 15#4 ∧ (0#4 : RegIdx) ≠ 15#4 ∧ (2#4 : RegIdx) ≠ 0#4 ∧ (2#4 : RegIdx) ≠ 1#4 ∧
    condPassed 14#4 wUser.cpsr = true ∧ wUser.mem.wf = true ∧ wUser.portCode (wUser.readExclusiveAccess (wUser.x 0#4)) = 0 ∧
    wUser.portCode (wUser.writeExclusiveAccess (wUser.x 0#4) (wUser.x 1#4)) = 0 ∧
    wUser.portExclusiveDone (wUser.writeExclusiveAccess (wUser.x 0#4) (wUser.x 1#4)) = true ∧
    (notExclusive wUser).portCode ((notExclusive wUser).writeExclusiveAccess (wUser.x 0#4) (wUser.x 1#4)) = 0 ∧
    (notExclusive wUser).portExclusiveDone ((notExclusive wUser).writeExclusiveAccess (wUser.x 0#4) (wUser.x 1#4)) = false := by
  decide +kernel
/-- Each form, with the fault at the first or only access; then the doublewords with the second access alone refused. -/
theorem test_witness_TransferFaults : baseLegal .postIndexed 0#4 1#4 = true ∧ LoadForm.offsetLegal (.ldrsh (.imm 4#8)) = true ∧
    unprivilegedLegal 0#4 1#4 = true ∧ StoreForm.offsetLegal (.str (.imm 4#12)) = true ∧ condPassed 14#4 wFault.cpsr = true ∧ wFault.mem.wf = true ∧
    transferAddress .postIndexed true (wFault.x 0#4) (LoadForm.offset wFault (.ldrsh (.imm 4#8))) = 0x1000#32 ∧
    wFault.portCode (wFault.readAccess 0x1000#32 .half false) ≠ 0 ∧ wFault.portCode (wFault.readAccess 0x1000#32 .half true) ≠ 0 ∧
    transferAddress .postIndexed true (wFault.x 0#4) (StoreForm.offset wFault (.str (.imm 4#12))) = 0x1000#32 ∧
    wFault.portCode (wFault.writeAccess 0x1000#32 .word (wFault.x 1#4) false) ≠ 0 ∧
    wFault.portCode (wFault.writeAccess 0x1000#32 .word (wFault.x 1#4) true) ≠ 0 ∧
    offsetAddress true ((wFault.pc + 8#32) &&& ~~~3#32) (LoadForm.offset wFault (LiteralLoad.form (.ldr 0xEF8#12))) = 0x1000#32 ∧
    wFault.portCode (wFault.readAccess 0x1000#32 .word false) ≠ 0 ∧ wFault.portCode (wFault.readExclusiveAccess 0x1000#32) ≠ 0 ∧
    wFault.portCode (wFault.writeExclusiveAccess 0x1000#32 (wFault.x 1#4)) ≠ 0 ∧
    (2#4 : RegIdx) ≠ 0#4 ∧ (2#4 : RegIdx) ≠ 1#4 ∧ doubleLegal .postIndexed 0#4 12#4 = true ∧ ldrdOffsetLegal 12#4 (.imm 8#8) = true ∧
    ExtraOffset.legal (.imm 8#8) = true ∧ wSecond.portCode (wSecond.readAccess 0x1000#32 .word false) = 0 ∧
    laterPortCode 1 wSecond (wSecond.readAccess (0x1000#32 + 4#32) .word false) ≠ 0 ∧
    wSecond.portCode (wSecond.writeAccess 0x1000#32 .word (wSecond.x 12#4) false) = 0 ∧
    laterPortCode 1 wSecond (wSecond.writeAccess (0x1000#32 + 4#32) .word (wSecond.x (12#4 + 1#4)) false) ≠ 0 := by decide +kernel
/-- The literal form of LDRD: the first read refused, and the second alone. -/
theorem test_witness_TransferFaults_literal : offsetAddress true ((wFault.pc + 8#32) &&& ~~~3#32) ((0#8).setWidth 32) = 0x108#32 ∧
    (faulting 0x108#32 wUser).portCode ((faulting 0x108#32 wUser).readAccess 0x108#32 .word false) ≠ 0 ∧
    (faulting 0x10C#32 wUser).portCode ((faulting 0x10C#32 wUser).readAccess 0x108#32 .word false) = 0 ∧
    laterPortCode 1 (faulting 0x10C#32 wUser) ((faulting 0x10C#32 wUser).readAccess (0x108#32 + 4#32) .word false) ≠ 0 ∧
    (12#4 : RegIdx).getLsbD 0 = false ∧ (12#4 : RegIdx) ≠ 14#4 := by decide +kernel
/-- One refused combination of each line. -/
theorem test_witness_TransferRefusals : (baseLegal .offset 0#4 15#4 && LoadForm.offsetLegal (.ldr (.imm 0#12))) = false ∧
    (unprivilegedLegal 1#4 1#4 && LoadForm.offsetLegal (.ldr (.imm 0#12))) = false ∧ writesBack .postIndexed = true ∧
    (baseLegal .offset 0#4 0#4 && StoreForm.offsetLegal (.strh (.reg 15#4))) = false ∧
    (unprivilegedLegal 15#4 0#4 && StoreForm.offsetLegal (.str (.imm 0#12))) = false ∧
    (doubleLegal .preIndexed 3#4 2#4 && ldrdOffsetLegal 2#4 (.imm 0#8)) = false ∧ (doubleLegal .offset 0#4 14#4 && ExtraOffset.legal (.imm 0#8)) = false ∧
    (1#4 : RegIdx).getLsbD 0 = true := by decide +kernel
/-- The full list without write-back, and one register with it. -/
theorem test_witness_blockTransfers : (0#4 : RegIdx) ≠ 15#4 ∧ (0xFFFF#16 : BitVec 16) ≠ 0#16 ∧ (false && (0xFFFF#16).getLsbD (0#4 : RegIdx).toNat) = false ∧
    (true && (0x8000#16).getLsbD (0#4 : RegIdx).toNat) = false ∧ (0x8000#16).getLsbD 15 = true ∧ (0x7FFF#16).getLsbD 15 = false ∧
    condPassed 14#4 wUser.cpsr = true ∧ wUser.mem.wf = true ∧
    BlockMode.first (wUser.x 0#4) (BitVec.ofNat 32 (4 * bitcount 0xFFFF#16)) .da = 0xFC4#32 := by decide +kernel
/-- A list with the base in it, the empty list, base 15; registers 15 and equal. -/
theorem test_witness_RegisterRefusals : ((0#4 : RegIdx) = 15#4 ∨ (1#16 : BitVec 16) = 0#16 ∨ (true = true ∧ (1#16).getLsbD (0#4 : RegIdx).toNat = true)) ∧
    ((0#4 : RegIdx) = 15#4 ∨ (0#16 : BitVec 16) = 0#16) ∧ ((15#4 : RegIdx) = 15#4 ∨ (0#4 : RegIdx) = 15#4) ∧
    ((0#4 : RegIdx) = 15#4 ∨ (15#4 : RegIdx) = 15#4) ∧ ((3#4 : RegIdx) = 15#4 ∨ (3#4 : RegIdx) = 15#4 ∨ (3#4 : RegIdx) = 3#4) ∧
    (∃ t, exec (.movw 0#4 15#4 0#16) wUser = .next t ∧ t.result = some (.unpredictable .registers)) :=
  ⟨by decide, by decide, by decide, by decide, by decide, _, rfl, rfl⟩
/-- A read of a block refused at its second word, and at its first: r1 and r2 from 0x1000; the two words of RFE. -/
theorem test_witness_ReadFails : ReadFails id 0x1000#32 1 5 wSecond ∧ ReadFails id 0x1000#32 0 5 wFault ∧ 1 < bitcount 6#16 ∧
    BlockMode.first (wSecond.x 0#4) (BitVec.ofNat 32 (4 * bitcount 6#16)) .ia = 0x1000#32 ∧ condPassed 14#4 wSecond.cpsr = true ∧
    ReadFails id 0x1000#32 1 5 (faulting 0x1004#32 wSvc) ∧ ((0x8006#16).getLsbD 15 = true ∧ 1 < bitcount 0x8006#16) ∧
    BlockMode.first ((faulting 0x1004#32 wSvc).x 0#4) 8#32 .ia = 0x1000#32 := by
  unfold ReadFails; decide +kernel
/-- A write of a block refused at its second word. -/
theorem test_witness_WriteFails : WriteFails id 0x1000#32 (blockValues wSecond.mode 6#16 wSecond) 1 5 wSecond ∧ wSecond.mem.wf = true ∧
    blockValues wSecond.mode 6#16 wSecond = [0#32, 4#32] := by
  have e : blockValues wSecond.mode 6#16 wSecond = [0#32, 4#32] := by decide +kernel
  refine ⟨?_, by decide +kernel, e⟩
  rw [e]
  refine ⟨by decide, by decide, fun j v h => ?_⟩
  match j with
  | 0 => cases h; exact ⟨fun _ => by decide +kernel, nofun⟩
  | 1 => cases h; exact ⟨fun h => absurd h (by decide), fun _ => by decide +kernel⟩
/-- The same of SRS, whose words go to 0x1FF8 and 0x1FFC. -/
theorem test_witness_WriteFails_srs : WriteFails id 0x1FF8#32 [wStack.x 14#4, 0x10#32] 1 5 wStack ∧ wStack.mem.wf = true ∧
    wStack.spsrOf wStack.mode = some 0x10#32 ∧ modeOfBits 0x13#5 = some .svc ∧ condPassed 14#4 wStack.cpsr = true ∧
    BlockMode.first (wStack.xm .svc 13#4) 8#32 .db = 0x1FF8#32 := by
  refine ⟨⟨by decide, by decide, fun j v h => ?_⟩, by decide +kernel, by decide +kernel, by decide +kernel, by decide +kernel, by decide +kernel⟩
  match j with
  | 0 => cases h; exact ⟨fun _ => by decide +kernel, nofun⟩
  | 1 => cases h; exact ⟨fun h => absurd h (by decide), fun _ => by decide +kernel⟩
/-- The second word of LDC and of STC refused, on the reference coprocessor at number 7. -/
theorem test_witness_coprocessor_faults : ReadFails (fun j => 3 * j + 2) 0x1000#32 1 5 (faulting 0x1004#32 wCop) ∧
    (faulting 0x1004#32 wCop).cop 7#4 = some ⟨Hooks.all, .reference RefCop.reset⟩ ∧
    ReadFails (fun j => 3 * j + 2) 0x108#32 1 5 (faulting 0x10C#32 wCop) ∧
    WriteFails (fun j => 3 * j + 3) 0x1000#32 ((List.range 2).map fun j => refCopWord RefCop.reset ((7#4 : BitVec 4).toNat + j)) 1 5
      (faulting 0x1004#32 wCop) := by
  refine ⟨by unfold ReadFails; decide +kernel, by decide +kernel, by unfold ReadFails; decide +kernel, by decide, by decide, fun j v h => ?_⟩
  match j with
  | 0 => cases h; exact ⟨fun _ => by decide +kernel, nofun⟩
  | 1 => cases h; exact ⟨fun h => absurd h (by decide), fun _ => by decide +kernel⟩
/-- The words of the coprocessor that the last register number allowed names. -/
theorem test_witness_coprocessors : (0#4 : RegIdx) ≠ 15#4 ∧ (1#4 : RegIdx) ≠ 15#4 ∧ (0#4 : RegIdx) ≠ 1#4 ∧ condPassed 14#4 wCop.cpsr = true ∧
    wCop.cop 7#4 = some ⟨Hooks.all, .reference RefCop.reset⟩ ∧ copWf (wCop.cop 7#4) = true ∧ Hooks.all.write = true ∧ Hooks.all.write2 = true ∧
    Hooks.all.dataProcess = true ∧ Hooks.all.read = true ∧ Hooks.all.read2 = true ∧ ldcHooks Hooks.all = true ∧ stcHooks Hooks.all = true ∧
    (7#4 : BitVec 4).toNat < 8 ∧ (false || true) = true ∧
    (Instr.ldcImmediate 14#4 false true true true 0#4 7#4 7#4 0xFF#8).wellFormed = true ∧ wCop.mem.wf = true ∧
    (0#4 = 0#4 ∧ (15#4 : BitVec 4) ≠ 0#4) := by decide +kernel
/-- No object, an object that lacks the hook, one that answers for itself, a reference one that declines. -/
theorem test_witness_CoprocessorDeclines : condPassed 14#4 wUser.cpsr = true ∧ wUser.copWith 15#4 Hooks.write = none ∧
    wUser.copWith 15#4 Hooks.read = none ∧ wUser.copWith 15#4 Hooks.write2 = none ∧ wUser.copWith 15#4 Hooks.read2 = none ∧
    wUser.copWith 15#4 Hooks.dataProcess = none ∧ wUser.copWith 15#4 stcHooks = none ∧ wUser.copWith 15#4 ldcHooks = none ∧
    wLacks.copWith 7#4 Hooks.write = none ∧ wLacks.copWith 7#4 ldcHooks = none ∧ condPassed 14#4 wLacks.cpsr = true ∧
    condPassed 14#4 wExternal.cpsr = true ∧ wExternal.cop 7#4 = some ⟨Hooks.all, .external 4⟩ ∧ wCop.cop 7#4 = some ⟨Hooks.all, .reference RefCop.reset⟩ ∧
    condPassed 14#4 wCop.cpsr = true ∧ Hooks.all.write = true ∧ Hooks.all.read = true ∧ Hooks.all.write2 = true ∧ Hooks.all.read2 = true ∧
    Hooks.all.dataProcess = true ∧ stcHooks Hooks.all = true ∧ ldcHooks Hooks.all = true ∧ (1#4 : RegIdx) ≠ 15#4 ∧ (2#4 : RegIdx) ≠ 1#4 ∧
    8 ≤ (8#4 : BitVec 4).toNat ∧ (false || false) = false := by decide +kernel
/-- Supervisor mode with a new legal mode, and with none; User mode. -/
theorem test_witness_CpsResult : condPassed 14#4 wSvc.cpsr = true ∧ wSvc.mode ≠ .usr ∧ (modeOfBits 0x1F#5).isSome = true ∧ wUser.mode = .usr := by
  decide +kernel
theorem test_witness_MrsResult : (0#4 : RegIdx) ≠ 15#4 ∧ condPassed 14#4 wSvc.cpsr = true ∧
    (if true then wSvc.spsrOf wSvc.mode else some wSvc.cpsr) = some 0x10#32 ∧ (if false then wUser.spsrOf wUser.mode else some wUser.cpsr) = some 0x10#32 := by
  decide +kernel
/-- A saved status; a merged mode that is legal and one that is not. -/
theorem test_witness_MsrResult : MsrSource.legal (.reg 14#4) = true ∧ condPassed 14#4 wSvc.cpsr = true ∧ wSvc.spsrOf wSvc.mode = some 0x10#32 ∧
    legalMode 0xD3#32 = true ∧ legalMode 0xD0#32 = true ∧ legalMode 0#32 = false ∧
    (∀ k, k < 32 → (0xD3#32).getLsbD k =
      if (1#4).getLsbD (k / 8) && (decide (wSvc.mode ≠ .usr) || decide (27 ≤ k) || decide (16 ≤ k ∧ k ≤ 19)) then
        (MsrSource.value wSvc (.imm 0x0D3#12)).getLsbD k else wSvc.cpsr.getLsbD k) ∧
    (∀ k, k < 32 → (0#32).getLsbD k =
      if (1#4).getLsbD (k / 8) && (decide (wSvc.mode ≠ .usr) || decide (27 ≤ k) || decide (16 ≤ k ∧ k ≤ 19)) then
        (MsrSource.value wSvc (.imm 0#12)).getLsbD k else wSvc.cpsr.getLsbD k) := by decide +kernel
theorem test_witness_WfiResult : condPassed 14#4 wUser.cpsr = true := by decide +kernel
/-- A legal loaded status, and an illegal one. -/
theorem test_witness_RfeResult : wSvc.mode ≠ .usr ∧ (0#4 : RegIdx) ≠ 15#4 ∧ condPassed 14#4 wSvc.cpsr = true ∧
    BlockMode.first (wSvc.x 0#4) 8#32 .ia = 0x1000#32 ∧ legalMode (wSvc.mem.read32 (0x1000#32 + 4#32)) = true ∧ wBad.mode ≠ .usr ∧
    legalMode (wBad.mem.read32 (0x1000#32 + 4#32)) = false := by decide +kernel
theorem test_witness_SrsResult : wSvc.mem.wf = true ∧ wSvc.spsrOf wSvc.mode = some 0x10#32 ∧ modeOfBits 0x1F#5 = some .sys ∧
    condPassed 14#4 wSvc.cpsr = true ∧ BlockMode.first (wSvc.xm .sys 13#4) 8#32 .db = 0xFFFFFFF8#32 := by decide +kernel
theorem test_witness_LdmExceptionReturnResult : (0x8001#16).getLsbD 15 = true ∧ wSvc.spsrOf wSvc.mode = some 0x10#32 ∧ legalMode 0x10#32 = true ∧
    (0#4 : RegIdx) ≠ 15#4 ∧ (false && (0x8001#16).getLsbD (0#4 : RegIdx).toNat) = false ∧ condPassed 14#4 wSvc.cpsr = true ∧
    BlockMode.first (wSvc.x 0#4) (BitVec.ofNat 32 (4 * bitcount 0x8001#16)) .ia = 0x1000#32 := by decide +kernel
theorem test_witness_UserBankTransfers : (0x7FFF#16).getLsbD 15 = false ∧ hasSpsr wSvc.mode = true ∧ (0#4 : RegIdx) ≠ 15#4 ∧ (0x7FFF#16 : BitVec 16) ≠ 0#16 ∧
    condPassed 14#4 wSvc.cpsr = true ∧ wSvc.mem.wf = true ∧ (0xFFFF#16).getLsbD 15 = true ∧ (0xFFFF#16 : BitVec 16) ≠ 0#16 := by decide +kernel
theorem test_witness_SubsPcResult : wSvc.spsrOf wSvc.mode = some 0x10#32 ∧ legalMode 0x10#32 = true ∧ condPassed 14#4 wSvc.cpsr = true := by
  decide +kernel
/-- A mode with no saved status, and an illegal saved one. -/
theorem test_witness_HypercallRefusals : wSvc.mode ≠ .usr ∧ modeOfBits 0#5 = none ∧ wUser.mode = .usr ∧ (0x8001#16).getLsbD (0#4 : RegIdx).toNat = true ∧
    hasSpsr wUser.mode = false ∧ wBad.spsrOf wBad.mode = some 0#32 ∧ legalMode 0#32 = false := by decide +kernel

end Sys2Proof.Tests
end

/-! ## Proofs: the functional units (R130, R131, R134, R140, R145 to R147) -/

section
/-! What `bits`, `bit`, `bitcount` and `align` compute, over all words (R130, R131, R134). -/

namespace Sys2Proof.Machine

theorem bits_eq_shift_mod (w : Word) {hi lo : Nat} (h : lo ≤ hi) :
    bits w hi lo = (w >>> lo).toNat % 2 ^ (hi - lo + 1) := by
  rw [bits, BitVec.toNat_ushiftRight, Nat.shiftRight_eq_div_pow, Nat.sub_add_comm h]

theorem bits_eq_extractLsb' (w : Word) {hi lo : Nat} (h : lo ≤ hi) :
    bits w hi lo = (w.extractLsb' lo (hi - lo + 1)).toNat := by
  rw [bits_eq_shift_mod w h, BitVec.extractLsb'_toNat, BitVec.toNat_ushiftRight]

theorem bit_eq_getLsbD (w : Word) (n : Nat) : bit w n = (w.getLsbD n).toNat := by
  rw [bit, bits, Nat.add_sub_cancel_left, pow_one, BitVec.getLsbD, Nat.toNat_testBit]

theorem bitcountBelow_eq_length_filter {n : Nat} (w : BitVec n) (k : Nat) :
    bitcountBelow w k = ((List.range k).filter fun i => w.getLsbD i).length := by
  induction k with
  | zero => rfl
  | succ k ih => cases h : w.getLsbD k <;> simp [bitcountBelow, List.range_succ, ih, h]

theorem align4_toNat (a : Word) : (align4 a).toNat = a.toNat - a.toNat % 4 := by
  have hmod : (a % 4#32).toNat = a.toNat % 4 := BitVec.toNat_umod
  rw [align4, BitVec.toNat_sub_of_le (BitVec.le_def.2 (hmod ▸ Nat.mod_le _ _)), hmod]

/-- Settles O1: each part is the lemma above about the function it names; the worked examples are evaluated. -/
theorem bitOpsRules : Obligations.BitOpsRules := by
  refine ⟨fun w hi lo h _ => ⟨bits_eq_shift_mod w h, bits_eq_extractLsb' w h⟩, fun w n _ => bit_eq_getLsbD w n, by decide, by decide,
    fun w => bitcountBelow_eq_length_filter w 32, by decide, fun a => ⟨align4_toNat a, ?_⟩, by decide, by decide⟩
  rw [align4_toNat]
  omega

end Sys2Proof.Machine
end

section
/-! The laws of the Shifter (R145). A rotation reads each bit from its place further round the ring, so rotations compose by adding their
amounts; RRX is the rotation by one of the ring of 33 bits that the carry flag and the word make up. -/

namespace Sys2Proof.Machine

theorem getLsbD_rotateRight_eq_mod {w : Nat} (x : BitVec w) (r : Nat) {i : Nat} (hi : i < w) :
    (x.rotateRight r).getLsbD i = x.getLsbD ((i + r) % w) := by
  have hr : r % w < w := Nat.mod_lt r (by omega)
  rw [BitVec.getLsbD_rotateRight, Nat.add_mod, Nat.mod_eq_of_lt hi]
  by_cases h : i < w - r % w
  · simp [h, Nat.mod_eq_of_lt (show i + r % w < w by omega), Nat.add_comm]
  · have hwrap : (i + r % w) % w = i - (w - r % w) := by
      rw [Nat.mod_eq_sub_mod (by omega), Nat.mod_eq_of_lt (by omega)]
      omega
    simp [h, hi, hwrap]

theorem rotateRight_rotateRight {w : Nat} (x : BitVec w) (r k : Nat) : (x.rotateRight r).rotateRight k = x.rotateRight (r + k) := by
  refine BitVec.eq_of_getLsbD_eq fun i hi => ?_
  rw [getLsbD_rotateRight_eq_mod _ k hi, getLsbD_rotateRight_eq_mod _ r (Nat.mod_lt _ (by omega)), getLsbD_rotateRight_eq_mod _ _ hi,
    Nat.mod_add_mod, Nat.add_assoc, Nat.add_comm k]

theorem rotateRight_width {w : Nat} (x : BitVec w) : x.rotateRight w = x := by
  refine BitVec.eq_of_getLsbD_eq fun i hi => ?_
  rw [getLsbD_rotateRight_eq_mod _ _ hi, Nat.add_mod_right, Nat.mod_eq_of_lt hi]

theorem iterate_rotateRight_one {w : Nat} (x : BitVec w) (n : Nat) : (fun y : BitVec w => y.rotateRight 1)^[n] x = x.rotateRight n := by
  induction n with
  | zero => simp [BitVec.rotateRight_def]
  | succ n ih => rw [Function.iterate_succ_apply', ih, rotateRight_rotateRight]

theorem lslC_value {n : Nat} (v : Word) (h : n ≤ 32) : (lslC v n).1 = v <<< n := by rw [lslC, if_pos h]

theorem lsrC_value {n : Nat} (v : Word) (h : n ≤ 32) : (lsrC v n).1 = v >>> n := by rw [lsrC, if_pos h]

theorem rorC_value (v : Word) (n : Nat) : (rorC v n).1 = v.rotateRight n := BitVec.rotateRight_def.symm

theorem shiftLeft_ushiftRight_eq_and_not (v : Word) (a : Nat) : v >>> a <<< a = v &&& ~~~(BitVec.ofNat 32 (2 ^ a - 1)) := by
  refine BitVec.eq_of_getLsbD_eq fun i hi => ?_
  simp only [BitVec.getLsbD_shiftLeft, BitVec.getLsbD_ushiftRight, BitVec.getLsbD_and, BitVec.getLsbD_not, BitVec.getLsbD_ofNat,
    Nat.testBit_two_pow_sub_one]
  by_cases h : i < a
  · simp [h, hi]
  · simp [h, hi, Nat.add_sub_cancel' (Nat.le_of_not_lt h)]

theorem rrxC_value (v : Word) (c : Bool) : (rrxC v c).1 = BitVec.cons c (v.extractLsb' 1 31) := rfl

theorem rrxC_carry (v : Word) (c : Bool) : (rrxC v c).2 = v.getLsbD 0 := rfl

theorem getLsbD_rrxC (v : Word) (c : Bool) {i : Nat} (h : i < 31) : (rrxC v c).1.getLsbD i = v.getLsbD (i + 1) := by
  rw [rrxC_value, BitVec.getLsbD_cons, if_neg (by omega), BitVec.getLsbD_extractLsb', decide_eq_true h, Bool.true_and, Nat.add_comm]

theorem getLsbD_rrxC_31 (v : Word) (c : Bool) : (rrxC v c).1.getLsbD 31 = c := by
  rw [rrxC_value, BitVec.getLsbD_cons, if_pos rfl]

/-- A rotate left by one bit through the carry undoes RRX. -/
theorem rrxC_undo (v : Word) (c : Bool) : ((rrxC v c).1 <<< 1) ||| (BitVec.ofBool (rrxC v c).2).setWidth 32 = v := by
  refine BitVec.eq_of_getLsbD_eq fun i hi => ?_
  rw [rrxC_carry, BitVec.getLsbD_or, BitVec.getLsbD_shiftLeft, BitVec.getLsbD_setWidth, BitVec.getLsbD_ofBool]
  cases i with
  | zero => simp
  | succ i => rw [Nat.add_sub_cancel, getLsbD_rrxC v c (by omega)]; simp [hi]

/-- The ring that RRX rotates: the carry flag above the word. -/
def carryRing (p : Word × Bool) : BitVec 33 := BitVec.cons p.2 p.1

theorem getLsbD_carryRing (p : Word × Bool) (i : Nat) : (carryRing p).getLsbD i = if i = 32 then p.2 else p.1.getLsbD i :=
  BitVec.getLsbD_cons p.2 p.1 i

theorem carryRing_injective : Function.Injective carryRing := by
  rintro ⟨v, c⟩ ⟨v', c'⟩ h
  have hbit (i : Nat) : (if i = 32 then c else v.getLsbD i) = if i = 32 then c' else v'.getLsbD i := by
    rw [← getLsbD_carryRing (v, c), h, getLsbD_carryRing]
  have hv : v = v' := BitVec.eq_of_getLsbD_eq fun i hi => by simpa only [Nat.ne_of_lt hi, if_false] using hbit i
  have hc : c = c' := hbit 32
  rw [hv, hc]

theorem carryRing_rrxC (v : Word) (c : Bool) : carryRing (rrxC v c) = (carryRing (v, c)).rotateRight 1 := by
  refine BitVec.eq_of_getLsbD_eq fun i hi => ?_
  rw [getLsbD_rotateRight_eq_mod _ _ hi, getLsbD_carryRing, getLsbD_carryRing]
  obtain h | rfl | rfl : i < 31 ∨ i = 31 ∨ i = 32 := by omega
  · rw [Nat.mod_eq_of_lt (by omega), if_neg (by omega), if_neg (by omega), getLsbD_rrxC v c h]
  · exact getLsbD_rrxC_31 v c
  · rfl

theorem iterate_rrxC_33 (p : Word × Bool) : (fun p : Word × Bool => rrxC p.1 p.2)^[33] p = p := by
  have hrotates : Function.Semiconj carryRing (fun p => rrxC p.1 p.2) (fun y => y.rotateRight 1) := fun p => carryRing_rrxC p.1 p.2
  apply carryRing_injective
  rw [(hrotates.iterate_right 33).eq, iterate_rotateRight_one, rotateRight_width]

/-- Settles O2: LSL and LSR by bits, ROR by the composition of rotations, RRX by the ring of 33 bits. -/
theorem shifterLaws : Obligations.ShifterLaws := by
  refine ⟨fun v a _ ha => ⟨?_, ?_⟩, fun v c => ⟨(rrxC_undo v c).symm, (getLsbD_rrxC_31 v c).symm⟩,
    fun v c => iterate_rrxC_33 (v, c), by decide, by decide⟩
  · rw [lsrC_value v (by omega), lslC_value _ (by omega), shiftLeft_ushiftRight_eq_and_not]
  · rw [rorC_value, rorC_value, rotateRight_rotateRight, Nat.add_sub_cancel' (by omega), rotateRight_width]

end Sys2Proof.Machine
end

section
/-! The carry and the overflow of the adder (R147). -/

namespace Sys2Proof.Machine

theorem addWithCarry_carry_iff (x y : Word) (cin : Bool) :
    (addWithCarry x y cin).carry = true ↔ 2 ^ 32 ≤ x.toNat + y.toNat + cin.toNat := by
  have hwrap : (BitVec.ofNat 32 (x.toNat + y.toNat + cin.toNat)).toNat = (x.toNat + y.toNat + cin.toNat) % 2 ^ 32 := BitVec.toNat_ofNat ..
  rw [addWithCarry, decide_eq_true_iff, hwrap]
  omega

theorem addWithCarry_overflow_iff_toInt (x y : Word) (cin : Bool) :
    (addWithCarry x y cin).overflow = true ↔ (addWithCarry x y cin).value.toInt ≠ x.toInt + y.toInt + (cin.toNat : Int) :=
  decide_eq_true_iff

/-- The result, read as signed, is the exact signed sum up to one turn of 2^32. -/
theorem addWithCarry_value_toInt (x y : Word) (cin : Bool) :
    (addWithCarry x y cin).value.toInt = (x.toInt + y.toInt + (cin.toNat : Int)).bmod (2 ^ 32) := by
  have hvalue : (addWithCarry x y cin).value = BitVec.ofNat 32 (x.toNat + y.toNat + cin.toNat) := rfl
  rw [hvalue, BitVec.toInt_ofNat', x.toInt_eq_toNat_bmod, y.toInt_eq_toNat_bmod, Nat.cast_add, Nat.cast_add, Int.add_assoc,
    Int.add_assoc, Int.bmod_add_bmod, Int.add_left_comm _ (Int.bmod _ _), Int.bmod_add_bmod, Int.add_left_comm]

theorem addWithCarry_overflow_iff (x y : Word) (cin : Bool) :
    (addWithCarry x y cin).overflow = true ↔
      x.toInt + y.toInt + (cin.toNat : Int) < -2 ^ 31 ∨ 2 ^ 31 ≤ x.toInt + y.toInt + (cin.toNat : Int) := by
  rw [addWithCarry_overflow_iff_toInt, addWithCarry_value_toInt, Ne, Int.bmod_eq_iff (by decide)]
  omega

theorem getLsbD_31_eq_decide_toInt_neg (w : Word) : w.getLsbD 31 = decide (w.toInt < 0) := by
  rw [← BitVec.msb_eq_toInt, BitVec.msb_eq_getLsbD_last]

/-- Two operands of unlike sign cannot overflow; two of like sign do when the result's sign is the other one. -/
theorem addWithCarry_overflow_iff_sign (x y : Word) (cin : Bool) :
    (addWithCarry x y cin).overflow = true ↔
      x.getLsbD 31 = y.getLsbD 31 ∧ (addWithCarry x y cin).value.getLsbD 31 ≠ x.getLsbD 31 := by
  have hx := x.toInt_lt
  have hx' := x.le_toInt
  have hy := y.toInt_lt
  have hy' := y.le_toInt
  have hc := cin.toNat_le
  obtain ⟨hlo, hhi, k, hk⟩ := (Int.bmod_eq_iff (by decide)).1 (addWithCarry_value_toInt x y cin).symm
  rw [addWithCarry_overflow_iff]
  simp only [getLsbD_31_eq_decide_toInt_neg, ne_eq, decide_eq_decide]
  omega

/-- Settles O4: the carry, the signed overflow and its bit-level form are the three lemmas above. -/
theorem addWithCarryLaw : Obligations.AddWithCarryLaw := fun x y cin =>
  ⟨addWithCarry_carry_iff x y cin, addWithCarry_overflow_iff x y cin, addWithCarry_overflow_iff_sign x y cin⟩

end Sys2Proof.Machine
end

/-! ## Proofs: B, BL and the media space (R272, R307, R308) -/

section
/-! A refusal, the step of a word that decodes, and the decoding of the refused spaces of loads, stores and branches. The decoder picks the
group from bits 27:25 before it looks at the condition, and the hypercall layout has no part in these groups. -/

namespace Sys2Proof.Machine

/-- `raise Unpredictable` does what R423 says: the halt is the only event, and nothing else changes. -/
theorem refuse_halts (s : State) (why : Reason) : ∃ t, refuse s why = .next t ∧ Halts [] s t :=
  ⟨_, rfl, { same := ⟨rfl, rfl, rfl, rfl, rfl, rfl, rfl, rfl, rfl, rfl⟩, halted := rfl, events := by simp, result := ⟨why, rfl⟩ }⟩

theorem refused_mediaSpace (cond : Cond) (hi : BitVec 20) (lo : BitVec 4) (s : State) : Refused (.mediaSpace cond hi lo) s :=
  refuse_halts s .media

theorem refused_b (cond : Cond) (imm24 : BitVec 24) (s : State) : Refused (.b cond imm24) s := refuse_halts s .branch

theorem refused_bl (cond : Cond) (imm24 : BitVec 24) (s : State) : Refused (.bl cond imm24) s := refuse_halts s .branch

theorem precondition_eq_none {s : State} (hrun : s.halted = false) (hmode : legalMode s.cpsr = true)
    (hpage : pageSizeOk s.ttblMinPageSize = true) : precondition s = none := by
  simp [precondition, hrun, hmode, hpage]

theorem step_of_decodeIn_ok {s : State} {i : Instr} (hpre : precondition s = none)
    (hdec : decodeIn s.hypLayout s.hyp (s.mem.read32 s.pc) = .ok i) : step s = exec i s.begin := by
  simp [step, fetchWord, hpre, hdec]

theorem fieldsOf_group_eq (w : Word) : (fieldsOf w).group = (w.extractLsb' 24 4).extractLsb' 1 3 := by
  refine BitVec.eq_of_getLsbD_eq fun i hi => ?_
  have hin : 1 + i < 4 := by omega
  simp [fieldsOf, hin, ← Nat.add_assoc]

theorem fieldsOf_b24_eq (w : Word) : (fieldsOf w).b24 = (w.extractLsb' 24 4).getLsbD 0 := by
  simp [fieldsOf]

theorem decodeFields_group5 (forms : HypForms) {f : Fields} (h : f.group = 5#3) : decodeFields forms false f = decodeBranch f := by
  simp [decodeFields, decodeNative, h]

theorem decodeFields_group3 (forms : HypForms) {f : Fields} (h : f.group = 3#3) :
    decodeFields forms false f = decodeLoadStoreRegister f := by
  simp [decodeFields, decodeNative, h]

/-- Bits 27:25 are the branch group; bit 24 is the link bit, which tells BL from B. -/
theorem decodeIn_branch (layout : HypLayout) {w : Word} (link : Bool) (h : w.extractLsb' 24 4 = 5#3 ++ BitVec.ofBool link) :
    ∃ cond imm24, decodeIn layout false w = .ok (if link then .bl cond imm24 else .b cond imm24) := by
  have hgroup : (fieldsOf w).group = 5#3 := by cases link <;> (rw [fieldsOf_group_eq, h]; rfl)
  have hlink : (fieldsOf w).b24 = link := by cases link <;> (rw [fieldsOf_b24_eq, h]; rfl)
  refine ⟨(fieldsOf w).cond, (fieldsOf w).imm24, ?_⟩
  rw [decodeIn, decodeFields_group5 _ hgroup, decodeBranch, hlink]
  cases link <;> rfl

theorem decodeIn_mediaSpace (layout : HypLayout) {w : Word} (hgroup : w.extractLsb' 25 3 = 3#3) (hbit : w.getLsbD 4 = true) :
    ∃ cond hi lo, decodeIn layout false w = .ok (.mediaSpace cond hi lo) := by
  have hmedia : (fieldsOf w).b4 = true := hbit
  rw [decodeIn, decodeFields_group3 _ hgroup, decodeLoadStoreRegister, if_pos hmedia]
  exact ⟨_, _, _, rfl⟩

/-- Settles O22: each of the three spaces decodes to its own instruction, and that instruction is refused in every state. -/
theorem branchAndMediaWordsRefused : Obligations.BranchAndMediaWordsRefused := by
  intro s hrun hmode hpage hhyp hword
  suffices hdec : ∃ i, decodeIn s.hypLayout s.hyp (s.mem.read32 s.pc) = .ok i ∧ Refused i s.begin by
    obtain ⟨i, hi, hrefused⟩ := hdec
    rw [step_of_decodeIn_ok (precondition_eq_none hrun hmode hpage) hi]
    exact hrefused
  rw [hhyp]
  obtain hb | hbl | ⟨hgroup, hbit⟩ := hword
  · obtain ⟨cond, imm24, hi⟩ := decodeIn_branch s.hypLayout false hb
    exact ⟨_, hi, refused_b cond imm24 _⟩
  · obtain ⟨cond, imm24, hi⟩ := decodeIn_branch s.hypLayout true hbl
    exact ⟨_, hi, refused_bl cond imm24 _⟩
  · obtain ⟨cond, hi, lo, hdec⟩ := decodeIn_mediaSpace s.hypLayout hgroup hbit
    exact ⟨_, hdec, refused_mediaSpace cond hi lo _⟩

end Sys2Proof.Machine
end

/-! ## Proofs: the PC in a stored block (R297) -/

section
/-! What STM stores last. On the reference memory the loop of a store ends, at the address after its last word; with bit 15 listed the
write made there is the last of all, so no later write can overlap its four bytes, wherever the block wraps. -/

namespace Sys2Proof.Machine

/-! ### A word of guest memory -/

theorem wordOfBytes_byteOfWord (v : Word) : wordOfBytes (byteOfWord v 0) (byteOfWord v 1) (byteOfWord v 2) (byteOfWord v 3) = v := by
  unfold wordOfBytes byteOfWord
  refine BitVec.eq_of_getLsbD_eq fun i hi => ?_
  simp only [BitVec.getLsbD_append, BitVec.getLsbD_extractLsb']
  grind

/-- The written word reads back, at any alignment and over the top of the space (R61, R67). -/
theorem Memory.read32_write32_self (m : Memory) (a v : Word) (h : m.wf = true) : (m.write32 a v).read32 a = v := by
  have h1 := m.wf_write8 a (byteOfWord v 0) h
  have h2 := Memory.wf_write8 _ (a + 1#32) (byteOfWord v 1) h1
  have h3 := Memory.wf_write8 _ (a + 2#32) (byteOfWord v 2) h2
  simp [Memory.write32, Memory.read32, Memory.read8_write8_self, Memory.read8_write8_ne, h, h1, h2, h3, wordOfBytes_byteOfWord]

/-! ### The stores of a block -/

/-- Index 15 reads `pc + 8` in every mode (R27). -/
theorem State.x_pc (s : State) : s.x 15#4 = s.pc + 8#32 := by
  rw [State.x, State.xm, (bank_eq_none s.mode 15#4).2 rfl]

/-- The reference memory with no faulting address performs every store (R63, R81). -/
theorem memWrite_reference (s : State) (a : Word) (n : Size) (v : Word) (u : Bool) {d : Bool} (h : s.port = .reference [] d) :
    memWrite s a n v u = .ok () { s.called (.write a n (truncateTo n v) u) with mem := s.mem.writeSize a v n } := by
  obtain ⟨_, hok⟩ | ⟨hcode, _⟩ := memWrite_cases s a n v u
  · exact hok
  · exact absurd (portCode_reference s _ h) hcode

/-- The loop of a store runs to its end there, and yields the address after the last word. -/
theorem storeRegisters_reference (m : Mode) (ns : List RegIdx) (a : Word) (s : State) {d : Bool} (h : s.port = .reference [] d) :
    ∃ t, storeRegisters m ns a s = .ok (wordAddr a ns.length) t ∧ Evolves s t := by
  suffices hend : ∃ t, storeRegisters m ns a s = .ok (wordAddr a ns.length) t by
    obtain ⟨t, ht⟩ := hend
    have hkeeps := evolves_storeRegisters m ns a s
    rw [ht] at hkeeps
    exact ⟨t, ht, hkeeps⟩
  induction ns generalizing a s with
  | nil => exact ⟨s, by simp [storeRegisters, wordAddr]⟩
  | cons n rest ih =>
    have hnext : wordAddr (a + 4#32) rest.length = wordAddr a (n :: rest).length := by
      simp only [wordAddr, List.length_cons]
      bv_omega
    rw [storeRegisters, memWrite_reference s a .word (s.xm m n) false h, ← hnext]
    exact ih (a + 4#32) _ h

/-- With bit 15 listed the last store of a block puts `pc + 8` at its address (R297). -/
theorem storePc_reference (l : BitVec 16) (a : Word) (s : State) {d : Bool} (h : s.port = .reference [] d) (hwf : s.mem.wf = true)
    (hpc : l.getLsbD 15 = true) : ∃ t, storePc l a s = .ok () t ∧ t.mem.read32 a = s.pc + 8#32 := by
  refine ⟨_, (if_pos hpc).trans (memWrite_reference s a .word (s.x 15#4) false h), ?_⟩
  rw [State.x_pc]
  exact s.mem.read32_write32_self a _ hwf

/-! ### The addresses of a block -/

/-- Bit 15 adds one word to those of the listed registers (R291). -/
theorem bitcount_of_pc_listed {l : BitVec 16} (hpc : l.getLsbD 15 = true) : bitcount l = (listedRegisters l).length + 1 := by
  have hlow : (listedRegisters l).length = bitcountBelow l 15 := by
    have hindex : List.range 15 = lowRegisters.map BitVec.toNat := by decide
    rw [bitcountBelow_eq_length_filter, hindex, List.filter_map, List.length_map]
    rfl
  rw [hlow, bitcount, bitcountBelow, if_pos hpc]

/-- `BlockStart` is the table of R292. -/
theorem blockStart_eq_first (a : BlockMode) (base length : Word) : blockStart a.p a.u base length = a.first base length := by
  cases a <;> rfl

/-! ### STM -/

/-- R298 to R301: the four instructions are STM in their modes. -/
theorem exec_stm (a : BlockMode) (cond : Cond) (w : Bool) (rn : RegIdx) (l : BitVec 16) (s : State) :
    exec (a.stm cond w rn l) s = stm a.p a.u cond w rn l s := by
  cases a <;> rfl

/-- Neither refused nor skipped, STM stores its block. -/
theorem stm_eq_storeMultiple (p u w : Bool) {cond : Cond} {rn : RegIdx} {l : BitVec 16} {s : State} (hrn : rn ≠ 15#4) (hl : l ≠ 0#16)
    (hcond : condPassed cond s.cpsr = true) : stm p u cond w rn l s = storeMultiple p u w rn l s := by
  rw [stm, refusing_of_false _ _ _ (by simp [stmRefusals, hrn, hl]), gated_true _ _ _ hcond]

/-- With bit 15 listed the word after those of the listed registers is `pc + 8` (R297). -/
theorem storeMultiple_pc (p u w : Bool) (rn : RegIdx) {l : BitVec 16} {s : State} {start : Word} {d : Bool}
    (hport : s.port = .reference [] d) (hwf : s.mem.wf = true) (hpc : l.getLsbD 15 = true)
    (hstart : blockStart p u (s.x rn) (blockLengthWord l) = start) :
    ∃ t, storeMultiple p u w rn l s = .next t ∧ t.result = some .ok ∧
      t.mem.read32 (wordAddr start (listedRegisters l).length) = s.pc + 8#32 := by
  obtain ⟨s1, hloop, hkeeps⟩ := storeRegisters_reference s.mode (listedRegisters l) start (s.emitRange start l) hport
  obtain ⟨s2, hlast, hword⟩ := storePc_reference l (wordAddr start (listedRegisters l).length) s1
    (hkeeps.port.trans hport) (hkeeps.mem hwf) hpc
  have hend : storeMultiple p u w rn l s = advance (s2.writeBack w rn (blockWriteBack u (s.x rn) (blockLengthWord l))) := by
    simp only [storeMultiple, hstart, hloop, PortResult.andThen, hlast, PortResult.orFault]
  refine ⟨_, hend, rfl, ?_⟩
  rw [State.writeBack_mem, hword, hkeeps.pc]
  rfl

/-- Settles O43: the highest word of the block is the one after those of the listed registers. -/
theorem stmStoresPcPlus8 : Obligations.StmStoresPcPlus8 := by
  rintro a cond w rn l s ⟨d, hport⟩ hwf hrn hpc hcond
  have hl : l ≠ 0#16 := by rintro rfl; simp at hpc
  have hlast : bitcount l - 1 = (listedRegisters l).length := by rw [bitcount_of_pc_listed hpc, Nat.add_sub_cancel]
  obtain ⟨t, ht, hok, hword⟩ := storeMultiple_pc a.p a.u w rn hport hwf hpc (blockStart_eq_first a _ _)
  rw [exec_stm, stm_eq_storeMultiple a.p a.u w hrn hl hcond, hlast]
  exact ⟨t, ht, hok, hword⟩

end Sys2Proof.Machine
end

/-! ## Proofs: the instruction families -/

section
/-! The instructions by family. The 24 forms of data processing, the 24 of SUBS PC, LR and those of the transfers differ in one operand or
one parameter only; a proof over all instructions goes by `Instr.byFamily`, one case for each family, and the meaning of a family is one
equation. -/

namespace Sys2Proof.Machine

/-- Every instruction is a member of one of the families of Sys2Proof/Safety.lean, or is alone. -/
theorem byFamily {motive : Instr → Prop}
    (dataProcessing : ∀ op cond sf rn rd o, motive (dpInstr op cond sf rn rd o))
    (movw : ∀ cond rd v, motive (.movw cond rd v))
    (load : ∀ (f : LoadForm) cond idx u rn rt, motive (f.instr cond idx u rn rt))
    (loadT : ∀ (f : LoadForm) cond u rn rt, motive (f.instrT cond u rn rt))
    (literal : ∀ (f : LiteralLoad) cond idx u rt, motive (f.instr cond idx u rt))
    (store : ∀ (f : StoreForm) cond idx u rn rt, motive (f.instr cond idx u rn rt))
    (storeT : ∀ (f : StoreForm) cond u rn rt, motive (f.instrT cond u rn rt))
    (ldrd : ∀ cond idx u rn rt o, motive (ldrdInstr cond idx u rn rt o))
    (ldrdLiteral : ∀ cond idx u rt v, motive (.ldrdLiteral cond idx u rt v))
    (strd : ∀ cond idx u rn rt o, motive (strdInstr cond idx u rn rt o))
    (doublewordP0W1 : ∀ cond store u i rn rt v, motive (.doublewordP0W1 cond store u i rn rt v))
    (ldrex : ∀ cond rn rt, motive (.ldrex cond rn rt))
    (strex : ∀ cond rn rd rt, motive (.strex cond rn rd rt))
    (mediaSpace : ∀ cond hi lo, motive (.mediaSpace cond hi lo))
    (ldm : ∀ (a : BlockMode) cond w rn l, motive (a.ldm cond w rn l))
    (stm : ∀ (a : BlockMode) cond w rn l, motive (a.stm cond w rn l))
    (blockNativeS : ∀ cond p u w ld rn l, motive (.blockNativeS cond p u w ld rn l))
    (b : ∀ cond v, motive (.b cond v))
    (bl : ∀ cond v, motive (.bl cond v))
    (vfpSpace : ∀ cond op mid odd low, motive (.vfpSpace cond op mid odd low))
    (stc : ∀ cond p u d w rn crd n v, motive (.stc cond p u d w rn crd n v))
    (ldcImmediate : ∀ cond p u d w rn crd n v, motive (.ldcImmediate cond p u d w rn crd n v))
    (ldcLiteral : ∀ cond p u d w crd n v, motive (.ldcLiteral cond p u d w crd n v))
    (mcrr : ∀ cond rt2 rt n o1 cm, motive (.mcrr cond rt2 rt n o1 cm))
    (mrrc : ∀ cond rt2 rt n o1 cm, motive (.mrrc cond rt2 rt n o1 cm))
    (cpSpace1100000x : ∀ cond ld rn crd n v, motive (.cpSpace1100000x cond ld rn crd n v))
    (mcr : ∀ cond o1 cn rt n o2 cm, motive (.mcr cond o1 cn rt n o2 cm))
    (mrc : ∀ cond o1 cn rt n o2 cm, motive (.mrc cond o1 cn rt n o2 cm))
    (cdp : ∀ cond o1 cn cd n o2 cm, motive (.cdp cond o1 cn cd n o2 cm))
    (hypCps : ∀ cond imod m a i f mode, motive (.hypCps cond imod m a i f mode))
    (hypMrs : ∀ cond r rd, motive (.hypMrs cond r rd))
    (hypMsr : ∀ (src : MsrSource) cond r mask, motive (src.instr cond r mask))
    (hypRfe : ∀ cond p u w rn, motive (.hypRfe cond p u w rn))
    (hypSrs : ∀ cond p u w mode, motive (.hypSrs cond p u w mode))
    (hypWfi : ∀ cond, motive (.hypWfi cond))
    (hypSubid7 : ∀ cond low, motive (.hypSubid7 cond low))
    (hypLdmExceptionReturn : ∀ cond p u w rn l, motive (.hypLdmExceptionReturn cond p u w rn l))
    (hypLdmUserRegisters : ∀ cond p u w rn l, motive (.hypLdmUserRegisters cond p u w rn l))
    (hypStmUserRegisters : ∀ cond p u rn l, motive (.hypStmUserRegisters cond p u rn l))
    (subsPc : ∀ op cond rn o, motive (subsPcInstr op cond rn o)) (i : Instr) : motive i := by
  cases i with
  | andImmediate cond sf rn rd imm12 => exact dataProcessing .and cond sf rn rd (.imm imm12)
  | andRegister cond sf rn rd imm5 ty rm => exact dataProcessing .and cond sf rn rd (.reg imm5 ty rm)
  | eorImmediate cond sf rn rd imm12 => exact dataProcessing .eor cond sf rn rd (.imm imm12)
  | eorRegister cond sf rn rd imm5 ty rm => exact dataProcessing .eor cond sf rn rd (.reg imm5 ty rm)
  | subImmediate cond sf rn rd imm12 => exact dataProcessing .sub cond sf rn rd (.imm imm12)
  | subRegister cond sf rn rd imm5 ty rm => exact dataProcessing .sub cond sf rn rd (.reg imm5 ty rm)
  | rsbImmediate cond sf rn rd imm12 => exact dataProcessing .rsb cond sf rn rd (.imm imm12)
  | rsbRegister cond sf rn rd imm5 ty rm => exact dataProcessing .rsb cond sf rn rd (.reg imm5 ty rm)
  | addImmediate cond sf rn rd imm12 => exact dataProcessing .add cond sf rn rd (.imm imm12)
  | addRegister cond sf rn rd imm5 ty rm => exact dataProcessing .add cond sf rn rd (.reg imm5 ty rm)
  | adcImmediate cond sf rn rd imm12 => exact dataProcessing .adc cond sf rn rd (.imm imm12)
  | adcRegister cond sf rn rd imm5 ty rm => exact dataProcessing .adc cond sf rn rd (.reg imm5 ty rm)
  | sbcImmediate cond sf rn rd imm12 => exact dataProcessing .sbc cond sf rn rd (.imm imm12)
  | sbcRegister cond sf rn rd imm5 ty rm => exact dataProcessing .sbc cond sf rn rd (.reg imm5 ty rm)
  | rscImmediate cond sf rn rd imm12 => exact dataProcessing .rsc cond sf rn rd (.imm imm12)
  | rscRegister cond sf rn rd imm5 ty rm => exact dataProcessing .rsc cond sf rn rd (.reg imm5 ty rm)
  | orrImmediate cond sf rn rd imm12 => exact dataProcessing .orr cond sf rn rd (.imm imm12)
  | orrRegister cond sf rn rd imm5 ty rm => exact dataProcessing .orr cond sf rn rd (.reg imm5 ty rm)
  | movImmediate cond sf rn rd imm12 => exact dataProcessing .mov cond sf rn rd (.imm imm12)
  | movRegister cond sf rn rd imm5 ty rm => exact dataProcessing .mov cond sf rn rd (.reg imm5 ty rm)
  | bicImmediate cond sf rn rd imm12 => exact dataProcessing .bic cond sf rn rd (.imm imm12)
  | bicRegister cond sf rn rd imm5 ty rm => exact dataProcessing .bic cond sf rn rd (.reg imm5 ty rm)
  | mvnImmediate cond sf rn rd imm12 => exact dataProcessing .mvn cond sf rn rd (.imm imm12)
  | mvnRegister cond sf rn rd imm5 ty rm => exact dataProcessing .mvn cond sf rn rd (.reg imm5 ty rm)
  | movw cond rd imm16 => exact movw cond rd imm16
  | strhImmediate cond idx u rn rt imm8 => exact store (.strh (.imm imm8)) cond idx u rn rt
  | strhRegister cond idx u rn rt rm => exact store (.strh (.reg rm)) cond idx u rn rt
  | ldrhImmediate cond idx u rn rt imm8 => exact load (.ldrh (.imm imm8)) cond idx u rn rt
  | ldrhLiteral cond idx u rt imm8 => exact literal (.ldrh imm8) cond idx u rt
  | ldrhRegister cond idx u rn rt rm => exact load (.ldrh (.reg rm)) cond idx u rn rt
  | ldrdImmediate cond idx u rn rt imm8 => exact ldrd cond idx u rn rt (.imm imm8)
  | ldrdLiteral cond idx u rt imm8 => exact ldrdLiteral cond idx u rt imm8
  | ldrdRegister cond idx u rn rt rm => exact ldrd cond idx u rn rt (.reg rm)
  | strdImmediate cond idx u rn rt imm8 => exact strd cond idx u rn rt (.imm imm8)
  | strdRegister cond idx u rn rt rm => exact strd cond idx u rn rt (.reg rm)
  | ldrsbImmediate cond idx u rn rt imm8 => exact load (.ldrsb (.imm imm8)) cond idx u rn rt
  | ldrsbLiteral cond idx u rt imm8 => exact literal (.ldrsb imm8) cond idx u rt
  | ldrsbRegister cond idx u rn rt rm => exact load (.ldrsb (.reg rm)) cond idx u rn rt
  | ldrshImmediate cond idx u rn rt imm8 => exact load (.ldrsh (.imm imm8)) cond idx u rn rt
  | ldrshLiteral cond idx u rt imm8 => exact literal (.ldrsh imm8) cond idx u rt
  | ldrshRegister cond idx u rn rt rm => exact load (.ldrsh (.reg rm)) cond idx u rn rt
  | strhtImmediate cond u rn rt imm8 => exact storeT (.strh (.imm imm8)) cond u rn rt
  | strhtRegister cond u rn rt rm => exact storeT (.strh (.reg rm)) cond u rn rt
  | ldrhtImmediate cond u rn rt imm8 => exact loadT (.ldrh (.imm imm8)) cond u rn rt
  | ldrhtRegister cond u rn rt rm => exact loadT (.ldrh (.reg rm)) cond u rn rt
  | ldrsbtImmediate cond u rn rt imm8 => exact loadT (.ldrsb (.imm imm8)) cond u rn rt
  | ldrsbtRegister cond u rn rt rm => exact loadT (.ldrsb (.reg rm)) cond u rn rt
  | ldrshtImmediate cond u rn rt imm8 => exact loadT (.ldrsh (.imm imm8)) cond u rn rt
  | ldrshtRegister cond u rn rt rm => exact loadT (.ldrsh (.reg rm)) cond u rn rt
  | doublewordP0W1 cond store u i rn rt imm8 => exact doublewordP0W1 cond store u i rn rt imm8
  | ldrex cond rn rt => exact ldrex cond rn rt
  | strex cond rn rd rt => exact strex cond rn rd rt
  | strImmediate cond idx u rn rt imm12 => exact store (.str (.imm imm12)) cond idx u rn rt
  | strRegister cond idx u rn rt imm5 ty rm => exact store (.str (.reg imm5 ty rm)) cond idx u rn rt
  | ldrImmediate cond idx u rn rt imm12 => exact load (.ldr (.imm imm12)) cond idx u rn rt
  | ldrLiteral cond idx u rt imm12 => exact literal (.ldr imm12) cond idx u rt
  | ldrRegister cond idx u rn rt imm5 ty rm => exact load (.ldr (.reg imm5 ty rm)) cond idx u rn rt
  | strbImmediate cond idx u rn rt imm12 => exact store (.strb (.imm imm12)) cond idx u rn rt
  | strbRegister cond idx u rn rt imm5 ty rm => exact store (.strb (.reg imm5 ty rm)) cond idx u rn rt
  | ldrbImmediate cond idx u rn rt imm12 => exact load (.ldrb (.imm imm12)) cond idx u rn rt
  | ldrbLiteral cond idx u rt imm12 => exact literal (.ldrb imm12) cond idx u rt
  | ldrbRegister cond idx u rn rt imm5 ty rm => exact load (.ldrb (.reg imm5 ty rm)) cond idx u rn rt
  | strtImmediate cond u rn rt imm12 => exact storeT (.str (.imm imm12)) cond u rn rt
  | strtRegister cond u rn rt imm5 ty rm => exact storeT (.str (.reg imm5 ty rm)) cond u rn rt
  | ldrtImmediate cond u rn rt imm12 => exact loadT (.ldr (.imm imm12)) cond u rn rt
  | ldrtRegister cond u rn rt imm5 ty rm => exact loadT (.ldr (.reg imm5 ty rm)) cond u rn rt
  | strbtImmediate cond u rn rt imm12 => exact storeT (.strb (.imm imm12)) cond u rn rt
  | strbtRegister cond u rn rt imm5 ty rm => exact storeT (.strb (.reg imm5 ty rm)) cond u rn rt
  | ldrbtImmediate cond u rn rt imm12 => exact loadT (.ldrb (.imm imm12)) cond u rn rt
  | ldrbtRegister cond u rn rt imm5 ty rm => exact loadT (.ldrb (.reg imm5 ty rm)) cond u rn rt
  | mediaSpace cond hi lo => exact mediaSpace cond hi lo
  | stmda cond w rn regList => exact stm .da cond w rn regList
  | stmia cond w rn regList => exact stm .ia cond w rn regList
  | stmdb cond w rn regList => exact stm .db cond w rn regList
  | stmib cond w rn regList => exact stm .ib cond w rn regList
  | ldmda cond w rn regList => exact ldm .da cond w rn regList
  | ldmia cond w rn regList => exact ldm .ia cond w rn regList
  | ldmdb cond w rn regList => exact ldm .db cond w rn regList
  | ldmib cond w rn regList => exact ldm .ib cond w rn regList
  | blockNativeS cond p u w l rn regList => exact blockNativeS cond p u w l rn regList
  | b cond imm24 => exact b cond imm24
  | bl cond imm24 => exact bl cond imm24
  | vfpSpace cond op mid odd low => exact vfpSpace cond op mid odd low
  | stc cond p u d w rn crd coproc imm8 => exact stc cond p u d w rn crd coproc imm8
  | ldcImmediate cond p u d w rn crd coproc imm8 => exact ldcImmediate cond p u d w rn crd coproc imm8
  | ldcLiteral cond p u d w crd coproc imm8 => exact ldcLiteral cond p u d w crd coproc imm8
  | mcrr cond rt2 rt coproc opc1 crm => exact mcrr cond rt2 rt coproc opc1 crm
  | mrrc cond rt2 rt coproc opc1 crm => exact mrrc cond rt2 rt coproc opc1 crm
  | cpSpace1100000x cond l rn crd coproc imm8 => exact cpSpace1100000x cond l rn crd coproc imm8
  | mcr cond opc1 crn rt coproc opc2 crm => exact mcr cond opc1 crn rt coproc opc2 crm
  | mrc cond opc1 crn rt coproc opc2 crm => exact mrc cond opc1 crn rt coproc opc2 crm
  | cdp cond opc1 crn crd coproc opc2 crm => exact cdp cond opc1 crn crd coproc opc2 crm
  | hypCps cond imod m a i f mode => exact hypCps cond imod m a i f mode
  | hypMrs cond r rd => exact hypMrs cond r rd
  | hypMsrImmediate cond r mask imm12 => exact hypMsr (.imm imm12) cond r mask
  | hypMsrRegister cond r mask rn => exact hypMsr (.reg rn) cond r mask
  | hypRfe cond p u w rn => exact hypRfe cond p u w rn
  | hypSrs cond p u w mode => exact hypSrs cond p u w mode
  | hypWfi cond => exact hypWfi cond
  | hypSubid7 cond low => exact hypSubid7 cond low
  | hypLdmExceptionReturn cond p u w rn regList => exact hypLdmExceptionReturn cond p u w rn regList
  | hypLdmUserRegisters cond p u w rn regList => exact hypLdmUserRegisters cond p u w rn regList
  | hypStmUserRegisters cond p u rn regList => exact hypStmUserRegisters cond p u rn regList
  | hypAndsPcImmediate cond rn imm12 => exact subsPc .and cond rn (.imm imm12)
  | hypAndsPcRegister cond rn imm5 ty rm => exact subsPc .and cond rn (.reg imm5 ty rm)
  | hypEorsPcImmediate cond rn imm12 => exact subsPc .eor cond rn (.imm imm12)
  | hypEorsPcRegister cond rn imm5 ty rm => exact subsPc .eor cond rn (.reg imm5 ty rm)
  | hypSubsPcImmediate cond rn imm12 => exact subsPc .sub cond rn (.imm imm12)
  | hypSubsPcRegister cond rn imm5 ty rm => exact subsPc .sub cond rn (.reg imm5 ty rm)
  | hypRsbsPcImmediate cond rn imm12 => exact subsPc .rsb cond rn (.imm imm12)
  | hypRsbsPcRegister cond rn imm5 ty rm => exact subsPc .rsb cond rn (.reg imm5 ty rm)
  | hypAddsPcImmediate cond rn imm12 => exact subsPc .add cond rn (.imm imm12)
  | hypAddsPcRegister cond rn imm5 ty rm => exact subsPc .add cond rn (.reg imm5 ty rm)
  | hypAdcsPcImmediate cond rn imm12 => exact subsPc .adc cond rn (.imm imm12)
  | hypAdcsPcRegister cond rn imm5 ty rm => exact subsPc .adc cond rn (.reg imm5 ty rm)
  | hypSbcsPcImmediate cond rn imm12 => exact subsPc .sbc cond rn (.imm imm12)
  | hypSbcsPcRegister cond rn imm5 ty rm => exact subsPc .sbc cond rn (.reg imm5 ty rm)
  | hypRscsPcImmediate cond rn imm12 => exact subsPc .rsc cond rn (.imm imm12)
  | hypRscsPcRegister cond rn imm5 ty rm => exact subsPc .rsc cond rn (.reg imm5 ty rm)
  | hypOrrsPcImmediate cond rn imm12 => exact subsPc .orr cond rn (.imm imm12)
  | hypOrrsPcRegister cond rn imm5 ty rm => exact subsPc .orr cond rn (.reg imm5 ty rm)
  | hypMovsPcImmediate cond rn imm12 => exact subsPc .mov cond rn (.imm imm12)
  | hypMovsPcRegister cond rn imm5 ty rm => exact subsPc .mov cond rn (.reg imm5 ty rm)
  | hypBicsPcImmediate cond rn imm12 => exact subsPc .bic cond rn (.imm imm12)
  | hypBicsPcRegister cond rn imm5 ty rm => exact subsPc .bic cond rn (.reg imm5 ty rm)
  | hypMvnsPcImmediate cond rn imm12 => exact subsPc .mvn cond rn (.imm imm12)
  | hypMvnsPcRegister cond rn imm5 ty rm => exact subsPc .mvn cond rn (.reg imm5 ty rm)

/-! ### What a family does -/

/-- Refusals with one reason: the work is done where the operands are legal, otherwise the instruction is refused. -/
theorem refusing_eq_ite {r : Reason} (s : State) (k : Out) {l : List (Bool × Reason)} {legal : Bool} (hr : ∀ p ∈ l, p.2 = r)
    (hlegal : l.any Prod.fst = !legal) : refusing s l k = if legal then k else refuse s r := by
  induction l with
  | nil => obtain rfl : legal = true := by simpa using hlegal
           rfl
  | cons p rest ih =>
    obtain ⟨hit, why⟩ := p
    obtain rfl : why = r := hr (hit, why) (by simp)
    cases hit with
    | true => obtain rfl : legal = false := by simpa using hlegal
              rfl
    | false => exact ih (fun q hq => hr q (by simp [hq])) (by simpa using hlegal)

/-- What a load moves. -/
def LoadForm.kind : LoadForm → LoadKind
  | .ldr _ => .word
  | .ldrb _ => .ubyte
  | .ldrh _ => .uhalf
  | .ldrsb _ => .sbyte
  | .ldrsh _ => .shalf

@[simp] theorem loadSize_kind (f : LoadForm) : loadSize f.kind = f.size := by cases f <;> rfl

@[simp] theorem extendLoad_kind (f : LoadForm) (v : Word) : extendLoad f.kind v = f.extend v := by cases f <;> rfl

theorem exec_dpInstr (op : AluOp) (cond : Cond) (sf : Bool) (rn rd : RegIdx) (o : Operand2) (s : State) :
    exec (dpInstr op cond sf rn rd o) s = dataProcessing op cond sf rn rd (o.value s) s := by
  cases o <;> cases op <;> rfl

theorem exec_subsPcInstr (op : AluOp) (cond : Cond) (rn : RegIdx) (o : Operand2) (s : State) :
    exec (subsPcInstr op cond rn o) s = subsPc op cond rn (o.value s) s := by
  cases o <;> cases op <;> rfl

theorem exec_msr (src : MsrSource) (cond : Cond) (r : Bool) (mask : BitVec 4) (s : State) :
    exec (src.instr cond r mask) s = if src.legal then msrSteps cond r mask (src.value s) s else refuse s .registers := by
  cases src with
  | imm v => rfl
  | reg rn =>
    by_cases h : rn = 15#4
    · subst h; rfl
    · have hrun : exec (.hypMsrRegister cond r mask rn) s = msrSteps cond r mask (s.x rn) s := refusing_of_false _ _ _ (by simp [h])
      simpa [MsrSource.instr, MsrSource.legal, MsrSource.value, h] using hrun

theorem exec_ldm (a : BlockMode) (cond : Cond) (w : Bool) (rn : RegIdx) (l : BitVec 16) (s : State) :
    exec (a.ldm cond w rn l) s = ldm a.p a.u cond w rn l s := by
  cases a <;> rfl

/-! The transfers of one register or two: with legal registers the work, otherwise the refusal. -/

theorem refusing_base (idx : Indexing) (rn rt : RegIdx) (s : State) (k : Out) :
    refusing s (baseRefusals idx rn rt) k = if baseLegal idx rn rt && true then k else refuse s .registers :=
  refusing_eq_ite s k (by simp [baseRefusals]) (by cases idx <;> simp [baseRefusals, baseLegal, writesBack, bne])

theorem refusing_baseRegister (idx : Indexing) (rn rt rm : RegIdx) (s : State) (k : Out) :
    refusing s (baseRefusals idx rn rt ++ registerFormRefusal rm) k =
      if baseLegal idx rn rt && rm != 15#4 then k else refuse s .registers :=
  refusing_eq_ite s k (by simp [baseRefusals, registerFormRefusal])
    (by cases idx <;> simp [baseRefusals, registerFormRefusal, baseLegal, writesBack, bne, Bool.or_assoc])

theorem refusing_unprivileged (rn rt : RegIdx) (s : State) (k : Out) :
    refusing s (unprivilegedRefusals rn rt) k = if unprivilegedLegal rn rt && true then k else refuse s .registers :=
  refusing_eq_ite s k (by simp [unprivilegedRefusals]) (by simp [unprivilegedRefusals, unprivilegedLegal, bne, Bool.or_assoc])

theorem refusing_unprivilegedRegister (rn rt rm : RegIdx) (s : State) (k : Out) :
    refusing s (unprivilegedRefusals rn rt ++ registerFormRefusal rm) k =
      if unprivilegedLegal rn rt && rm != 15#4 then k else refuse s .registers :=
  refusing_eq_ite s k (by simp [unprivilegedRefusals, registerFormRefusal])
    (by simp [unprivilegedRefusals, registerFormRefusal, unprivilegedLegal, bne, Bool.or_assoc])

theorem refusing_double (idx : Indexing) (rn rt : RegIdx) (s : State) (k : Out) :
    refusing s (doubleRefusals idx rn rt) k = if doubleLegal idx rn rt && true then k else refuse s .registers :=
  refusing_eq_ite s k (by simp [doubleRefusals])
    (by cases idx <;> simp [doubleRefusals, doubleLegal, writesBack, bne, Bool.or_assoc])

theorem refusing_ldrdRegister (idx : Indexing) (rn rt rm : RegIdx) (s : State) (k : Out) :
    refusing s (doubleRefusals idx rn rt ++ [(rm == 15#4, .registers), (rm == rt, .registers), (rm == rt + 1#4, .registers)]) k =
      if doubleLegal idx rn rt && (rm != 15#4 && rm != rt && rm != rt + 1#4) then k else refuse s .registers :=
  refusing_eq_ite s k (by simp [doubleRefusals])
    (by cases idx <;> simp [doubleRefusals, doubleLegal, writesBack, bne, Bool.or_assoc])

theorem refusing_strdRegister (idx : Indexing) (rn rt rm : RegIdx) (s : State) (k : Out) :
    refusing s (doubleRefusals idx rn rt ++ registerFormRefusal rm) k =
      if doubleLegal idx rn rt && rm != 15#4 then k else refuse s .registers :=
  refusing_eq_ite s k (by simp [doubleRefusals, registerFormRefusal])
    (by cases idx <;> simp [doubleRefusals, registerFormRefusal, doubleLegal, writesBack, bne, Bool.or_assoc])

section
variable (cond : Cond) (idx : Indexing) (u : Bool) (rn rt : RegIdx) (s : State)

theorem exec_load (f : LoadForm) : exec (f.instr cond idx u rn rt) s =
    if baseLegal idx rn rt && f.offsetLegal then loadFrom f.kind cond idx u rn rt (f.offset s) s else refuse s .registers := by
  cases f with
  | ldr o | ldrb o | ldrh o | ldrsb o | ldrsh o =>
    cases o with
    | imm => exact refusing_base idx rn rt s _
    | reg => exact refusing_baseRegister idx rn rt _ s _

theorem exec_loadT (f : LoadForm) : exec (f.instrT cond u rn rt) s =
    if unprivilegedLegal rn rt && f.offsetLegal then loadUnprivileged f.kind cond u rn rt (f.offset s) s else refuse s .registers := by
  cases f with
  | ldr o | ldrb o | ldrh o | ldrsb o | ldrsh o =>
    cases o with
    | imm => exact refusing_unprivileged rn rt s _
    | reg => exact refusing_unprivilegedRegister rn rt _ s _

theorem exec_store (f : StoreForm) : exec (f.instr cond idx u rn rt) s =
    if baseLegal idx rn rt && f.offsetLegal then storeTo f.size cond idx u rn rt (f.offset s) s else refuse s .registers := by
  cases f with
  | str o | strb o | strh o =>
    cases o with
    | imm => exact refusing_base idx rn rt s _
    | reg => exact refusing_baseRegister idx rn rt _ s _

theorem exec_storeT (f : StoreForm) : exec (f.instrT cond u rn rt) s =
    if unprivilegedLegal rn rt && f.offsetLegal then storeUnprivileged f.size cond u rn rt (f.offset s) s else refuse s .registers := by
  cases f with
  | str o | strb o | strh o =>
    cases o with
    | imm => exact refusing_unprivileged rn rt s _
    | reg => exact refusing_unprivilegedRegister rn rt _ s _

theorem exec_literal (f : LiteralLoad) : exec (f.instr cond idx u rt) s =
    if rt != 15#4 && !writesBack idx then
      loadSteps f.form.kind false cond false (transferAddress idx u (literalBase s) (f.form.offset s)) 0#32 15#4 rt s
    else refuse s .registers := by
  have hrun (k : LoadKind) (off : Word) : loadLiteral k cond idx u rt off s =
      if rt != 15#4 && !writesBack idx then
        loadSteps k false cond false (transferAddress idx u (literalBase s) off) 0#32 15#4 rt s
      else refuse s .registers :=
    refusing_eq_ite s _ (by simp [literalRefusals]) (by simp [literalRefusals, bne])
  cases f <;> exact hrun _ _

theorem exec_ldrd (o : ExtraOffset) : exec (ldrdInstr cond idx u rn rt o) s =
    if doubleLegal idx rn rt && ldrdOffsetLegal rt o then loadDouble cond idx u rn rt (o.value s) s else refuse s .registers := by
  cases o with
  | imm => exact refusing_double idx rn rt s _
  | reg rm => exact refusing_ldrdRegister idx rn rt rm s _

theorem exec_strd (o : ExtraOffset) : exec (strdInstr cond idx u rn rt o) s =
    if doubleLegal idx rn rt && o.legal then storeDouble cond idx u rn rt (o.value s) s else refuse s .registers := by
  cases o with
  | imm => exact refusing_double idx rn rt s _
  | reg rm => exact refusing_strdRegister idx rn rt rm s _

theorem exec_ldrdLiteral (v : BitVec 8) : exec (.ldrdLiteral cond idx u rt v) s =
    if !rt.getLsbD 0 && rt != 14#4 && !writesBack idx then
      loadDoubleSteps cond false (transferAddress idx u (literalBase s) (v.setWidth 32)) 0#32 15#4 rt s
    else refuse s .registers :=
  refusing_eq_ite s _ (by simp) (by simp [bne, Bool.or_assoc])

theorem exec_ldrex : exec (.ldrex cond rn rt) s =
    if rt != 15#4 && rn != 15#4 then
      gated cond s ((memReadX s (s.x rn)).orFault fun v s' => advance (s'.setX rt v))
    else refuse s .registers :=
  refusing_eq_ite s _ (by simp) (by simp [bne])

theorem exec_strex (rd : RegIdx) : exec (.strex cond rn rd rt) s =
    if rd != 15#4 && rt != 15#4 && rn != 15#4 && rd != rn && rd != rt then
      gated cond s ((memWriteX s (s.x rn) (s.x rt)).orFault fun done s' => advance (s'.setX rd (if done then 0#32 else 1#32)))
    else refuse s .registers :=
  refusing_eq_ite s _ (by simp) (by simp [bne, Bool.or_assoc])

end

end Sys2Proof.Machine
end

/-! ## Proofs: every instruction, and every step -/

section
/-! What an invocation has done so far. `Runs made s t` says of the work from `s` to `t` what holds of every instruction: the port events
`made`, all of whose memory calls were accepted, what stays as it was, and what User mode cannot reach. It composes, so each operation is
looked at once. -/

namespace Sys2Proof.Machine

/-- Nothing but reference coprocessors (R335). -/
def AllReference (s : State) : Prop := ∀ (n : BitVec 4) (o : CopObject), s.cop n = some o → ∃ r, o.unit = .reference r

/-- The work of an invocation so far, from `s` to `t`. -/
structure Runs (made : List Event) (s t : State) : Prop where
  keeps : Evolves s t
  events : t.events = s.events ++ made
  tick : t.envTick = s.envTick + made.countP isPortCall
  accepted : ∀ (before : List Event) (e : Event) (after : List Event), made = before ++ e :: after → isMemoryCall e = true →
    AnsweredWith 0 before e s
  userRegs : s.mode = .usr → ∀ p : PReg, (∀ n : RegIdx, userBank n ≠ some p) → t.reg p = s.reg p
  references : AllReference s → AllReference t

theorem Evolves.mode {s t : State} (h : Evolves s t) : t.mode = s.mode := by simp [State.mode, h.cpsr]

/-- The answer of the port depends on the port and the tick only. -/
theorem laterPortCode_congr {s t : State} {j k : Nat} (hport : t.port = s.port) (htick : t.envTick + j = s.envTick + k) (a : PortAccess) :
    laterPortCode j t a = laterPortCode k s a := by
  simp [laterPortCode, State.portCode, hport, htick]

/-- A call answered after some work is answered after the events of that work. -/
theorem Runs.answeredWith {made before : List Event} {s t : State} {e : Event} {code : Nat} (h : Runs made s t)
    (ha : AnsweredWith code before e t) : AnsweredWith code (made ++ before) e s := by
  obtain ⟨a, haccess, hcode⟩ := ha
  refine ⟨a, h.keeps.mode ▸ haccess, ?_⟩
  rw [← hcode]
  exact (laterPortCode_congr h.keeps.port (by rw [h.tick, List.countP_append, Nat.add_assoc]) a).symm

theorem Runs.refl (s : State) : Runs [] s s where
  keeps := .refl s
  events := by simp
  tick := by simp
  accepted := by simp
  userRegs := fun _ _ _ => rfl
  references := id

theorem Runs.trans {made more : List Event} {s t r : State} (h : Runs made s t) (k : Runs more t r) : Runs (made ++ more) s r where
  keeps := h.keeps.trans k.keeps
  events := by rw [k.events, h.events, List.append_assoc]
  tick := by rw [k.tick, h.tick, List.countP_append, Nat.add_assoc]
  accepted := by
    intro before e after hmade hcall
    obtain ⟨rest, rfl, hmore⟩ | ⟨rest, rfl, hrest⟩ := List.append_eq_append_iff.1 hmade
    · exact h.answeredWith (k.accepted rest e after hmore hcall)
    · cases rest with
      | nil =>
        rw [List.nil_append] at hrest
        simpa using h.answeredWith (k.accepted [] e after hrest.symm hcall)
      | cons e' rest =>
        obtain ⟨rfl, rfl⟩ := List.cons.inj hrest
        exact h.accepted before e rest rfl hcall
  userRegs := fun hm p hp => (k.userRegs (h.keeps.mode.trans hm) p hp).trans (h.userRegs hm p hp)
  references := fun ha => k.references (h.references ha)

theorem Runs.trans_nil {made : List Event} {s t r : State} (h : Runs made s t) (k : Runs [] t r) : Runs made s r := by
  simpa using h.trans k

/-! ### The operations -/

theorem reg_congr {s t : State} (h : t.regs = s.regs) (p : PReg) : t.reg p = s.reg p := by simp [State.reg, h]

theorem allReference_congr {s t : State} (h : t.coprocs = s.coprocs) (ha : AllReference s) : AllReference t := fun n o ho =>
  ha n o (cop_congr h n ▸ ho)

/-- A port call that changes at most memory, and that the port accepts if it is a memory call. -/
theorem runs_call {s t : State} {e : Event} (hkeeps : Evolves s t) (hevents : t.events = s.events ++ [e])
    (htick : t.envTick = s.envTick + 1)
    (hregs : t.regs = s.regs) (hrefs : AllReference s → AllReference t) (hcall : isPortCall e = true)
    (hok : isMemoryCall e = true → AnsweredWith 0 [] e s) : Runs [e] s t where
  keeps := hkeeps
  events := hevents
  tick := by simp [htick, hcall]
  accepted := by
    intro before e' after hmade hmem
    obtain ⟨rfl, rfl, rfl⟩ : before = [] ∧ e' = e ∧ after = [] := by
      cases before with
      | nil => simpa [eq_comm] using hmade
      | cons x xs => simp at hmade
    exact hok hmem
  userRegs := fun _ p _ => reg_congr hregs p
  references := hrefs

theorem runs_hookCall (s : State) (n : BitVec 4) (c : HookCall) : Runs [.hook n c] s (s.called (.hook n c)) :=
  runs_call (evolves_called s _) rfl rfl rfl id rfl (by intro h; cases h)

theorem runs_setXm {s : State} {m : Mode} (hm : s.mode = .usr → m = .usr) (n : RegIdx) (v : Word) : Runs [] s (s.setXm m n v) where
  keeps := evolves_setXm s m n v
  events := by simp
  tick := by simp
  accepted := by simp
  userRegs := by
    intro hu p hp
    obtain rfl := hm hu
    exact s.reg_setXm_ne .usr n v (hp n)
  references := allReference_congr (by simp)

theorem runs_setX (s : State) (n : RegIdx) (v : Word) : Runs [] s (s.setX n v) := runs_setXm id n v

theorem runs_writeBack (s : State) (b : Bool) (n : RegIdx) (v : Word) : Runs [] s (s.writeBack b n v) := by
  cases b with
  | true => exact runs_setX s n v
  | false => exact .refl s

theorem runs_emitAll (s : State) (es : List Event) (h : ∀ e ∈ es, isPortCall e = false) : Runs es s (s.emitAll es) where
  keeps := ⟨rfl, rfl, rfl, rfl, rfl, rfl, rfl, rfl, id, id⟩
  events := rfl
  tick := by rw [List.countP_eq_zero.2 fun e he => by simp [h e he]]; rfl
  accepted := by
    rintro before e after rfl hcall
    have hne := h e (by simp)
    simp [isPortCall, hcall] at hne
  userRegs := fun _ _ _ => rfl
  references := id

theorem runs_emitRange (s : State) (a : Word) (l : BitVec 16) :
    Runs (rangeEvents s.ttblMinPageSize a (blockLength l)) s (s.emitRange a l) := by
  refine runs_emitAll s _ fun e he => ?_
  unfold rangeEvents at he
  dsimp only at he
  split at he
  · obtain rfl | rfl : e = _ ∨ e = _ := by simpa using he
    all_goals rfl
  · obtain rfl : e = _ := by simpa using he
    rfl

/-! ### The memory port -/

/-- The work from `s` came to a memory call that the port answered with this code. -/
def CallRefused (code : Nat) (s t : State) : Prop :=
  ∃ made t' e, Runs made s t' ∧ t = t'.called e ∧ isMemoryCall e = true ∧ AnsweredWith code made e s ∧ code ≠ 0

theorem Runs.callRefused {made : List Event} {s t u : State} {code : Nat} (h : Runs made s t) (hr : CallRefused code t u) :
    CallRefused code s u := by
  obtain ⟨more, t', e, hmore, ht', hcall, hcode, hne⟩ := hr
  exact ⟨_, t', e, h.trans hmore, ht', hcall, h.answeredWith hcode, hne⟩

/-- What the answer of port calls from `s` says: all were accepted, or all but the last. -/
def PortRuns {α : Type} (s : State) : PortResult α → Prop
  | .ok _ t => ∃ made, Runs made s t
  | .err code t => CallRefused code s t

theorem Runs.portRuns {α : Type} {made : List Event} {s t : State} (h : Runs made s t) {r : PortResult α} (hr : PortRuns t r) :
    PortRuns s r := by
  cases r with
  | ok v u =>
    obtain ⟨more, hmore⟩ := hr
    exact ⟨_, h.trans hmore⟩
  | err code u => exact h.callRefused hr

theorem answeredWith_nil {s : State} {e : Event} {a : PortAccess} (h : e.access s.mode = some a) : AnsweredWith (s.portCode a) [] e s :=
  ⟨a, h, rfl⟩

theorem portRuns_memRead (s : State) (a : Word) (n : Size) (u : Bool) : PortRuns s (memRead s a n u) := by
  have hanswer := answeredWith_nil (s := s) (e := .read a n u) rfl
  obtain ⟨h0, h⟩ | ⟨h0, h⟩ := memRead_cases s a n u <;> rw [h]
  · exact ⟨_, runs_call (evolves_called s _) rfl rfl rfl id rfl fun _ => h0 ▸ hanswer⟩
  · exact ⟨[], s, _, .refl s, rfl, rfl, hanswer, h0⟩

theorem portRuns_memReadX (s : State) (a : Word) : PortRuns s (memReadX s a) := by
  have hanswer := answeredWith_nil (s := s) (e := .readX a) rfl
  obtain ⟨h0, h⟩ | ⟨h0, h⟩ := memReadX_cases s a <;> rw [h]
  · exact ⟨_, runs_call (evolves_called s _) rfl rfl rfl id rfl fun _ => h0 ▸ hanswer⟩
  · exact ⟨[], s, _, .refl s, rfl, rfl, hanswer, h0⟩

theorem portRuns_memWrite (s : State) (a : Word) (n : Size) (v : Word) (u : Bool) : PortRuns s (memWrite s a n v u) := by
  have hanswer := answeredWith_nil (s := s) (e := .write a n (truncateTo n v) u) rfl
  obtain ⟨h0, h⟩ | ⟨h0, h⟩ := memWrite_cases s a n v u
  · have hkeeps := evolves_memWrite h
    rw [h]
    exact ⟨_, runs_call hkeeps rfl rfl rfl id rfl fun _ => h0 ▸ hanswer⟩
  · rw [h]
    exact ⟨[], s, _, .refl s, rfl, rfl, hanswer, h0⟩

theorem portRuns_memWriteX (s : State) (a v : Word) : PortRuns s (memWriteX s a v) := by
  have hanswer := answeredWith_nil (s := s) (e := .writeX a v) rfl
  have hkeeps := evolves_memWriteX_state s a v
  obtain ⟨h0, _, h⟩ | ⟨h0, _, h⟩ | ⟨h0, h⟩ := memWriteX_cases s a v <;> rw [h] at hkeeps ⊢
  · exact ⟨_, runs_call hkeeps rfl rfl rfl id rfl fun _ => h0 ▸ hanswer⟩
  · exact ⟨_, runs_call hkeeps rfl rfl rfl id rfl fun _ => h0 ▸ hanswer⟩
  · exact ⟨[], s, _, .refl s, rfl, rfl, hanswer, h0⟩

theorem PortRuns.andThen {α β : Type} {s : State} {r : PortResult α} {k : α → State → PortResult β} (hr : PortRuns s r)
    (hk : ∀ v t, PortRuns t (k v t)) : PortRuns s (r.andThen k) := by
  cases r with
  | ok v t =>
    obtain ⟨made, hmade⟩ := hr
    exact hmade.portRuns (hk v t)
  | err code t => exact hr

theorem portRuns_loadRegisters {m : Mode} (ns : List RegIdx) (a : Word) {s : State} (hm : s.mode = .usr → m = .usr) :
    PortRuns s (loadRegisters m ns a s) := by
  induction ns generalizing a s with
  | nil => exact ⟨[], .refl s⟩
  | cons n rest ih =>
    rw [loadRegisters]
    have hread := portRuns_memRead s a .word false
    cases h : memRead s a .word false with
    | ok v s' =>
      rw [h] at hread
      obtain ⟨made, hmade⟩ := hread
      have hm' : s'.mode = .usr → m = .usr := hmade.keeps.mode.symm ▸ hm
      exact (hmade.trans (runs_setXm hm' n v)).portRuns (ih (a + 4#32) (by simpa using hm'))
    | err code s' => rwa [h] at hread

theorem portRuns_storeRegisters (m : Mode) (ns : List RegIdx) (a : Word) (s : State) : PortRuns s (storeRegisters m ns a s) := by
  induction ns generalizing a s with
  | nil => exact ⟨[], .refl s⟩
  | cons n rest ih =>
    rw [storeRegisters]
    have hwrite := portRuns_memWrite s a .word (s.xm m n) false
    cases h : memWrite s a .word (s.xm m n) false with
    | ok v s' =>
      rw [h] at hwrite
      obtain ⟨made, hmade⟩ := hwrite
      exact hmade.portRuns (ih (a + 4#32) s')
    | err code s' => rwa [h] at hwrite

theorem portRuns_storePc (l : BitVec 16) (a : Word) (s : State) : PortRuns s (storePc l a s) := by
  unfold storePc
  split
  · exact portRuns_memWrite s a .word _ false
  · exact ⟨[], .refl s⟩

/-! ### Coprocessor hooks -/

/-- A hook call that leaves the registers and memory, and every other coprocessor's kind. -/
theorem runs_hook {s t : State} {n : BitVec 4} {c : HookCall} (hkeeps : Evolves s t) (hevents : t.events = s.events ++ [.hook n c])
    (htick : t.envTick = s.envTick + 1) (hregs : t.regs = s.regs) (hrefs : AllReference s → AllReference t) : Runs [.hook n c] s t :=
  runs_call hkeeps hevents htick hregs hrefs rfl (by intro h; cases h)

theorem allReference_setCopUnit (s : State) (n : BitVec 4) (r : RefCop) (h : AllReference s) :
    AllReference (s.setCopUnit n (.reference r)) := by
  intro k o ho
  rw [cop_setCopUnit] at ho
  split at ho
  · obtain ⟨o', _, rfl⟩ := Option.map_eq_some_iff.1 ho
    exact ⟨r, rfl⟩
  · exact h k o ho

theorem runs_hookSet {s : State} {n : BitVec 4} {c : HookCall} {r : RefCop}
    (h : Evolves s ((s.called (.hook n c)).setCopUnit n (.reference r))) :
    Runs [.hook n c] s ((s.called (.hook n c)).setCopUnit n (.reference r)) :=
  runs_hook h (by simp) (by simp) (by simp) fun ha => allReference_setCopUnit _ n r ha

theorem runs_hookWrite (s : State) (n : BitVec 4) (o1 o2 : BitVec 3) (cn cm : BitVec 4) (v : Word) :
    Runs [.hook n (.write o1 o2 cn cm v)] s (hookWrite s n o1 o2 cn cm v).2 := by
  have hkeeps := evolves_hookWrite s n o1 o2 cn cm v
  unfold hookWrite at hkeeps ⊢
  split at hkeeps
  · exact runs_hookSet hkeeps
  · exact runs_hookCall s n _

theorem runs_hookWrite2 (s : State) (n o1 cm : BitVec 4) (v w : Word) :
    Runs [.hook n (.write2 o1 cm v w)] s (hookWrite2 s n o1 cm v w).2 := by
  have hkeeps := evolves_hookWrite2 s n o1 cm v w
  unfold hookWrite2 at hkeeps ⊢
  split at hkeeps
  · exact runs_hookSet hkeeps
  · exact runs_hookCall s n _

theorem runs_hookDataProcess (s : State) (n o1 : BitVec 4) (o2 : BitVec 3) (cd cn cm : BitVec 4) :
    Runs [.hook n (.dataProcess o1 o2 cd cn cm)] s (hookDataProcess s n o1 o2 cd cn cm).2 := by
  unfold hookDataProcess
  split
  · rename_i r h
    dsimp only
    split
    · exact runs_hookSet (evolves_setReference _ h id)
    · exact runs_hookCall s n _
  · exact runs_hookCall s n _

theorem runs_hookAccept (s : State) (n : BitVec 4) (t : TransferArgs) : Runs [acceptEvent n t] s (hookAccept s n t).2 := by
  unfold hookAccept
  split <;> exact runs_hookCall s n _

theorem runs_hookDone (s : State) (n : BitVec 4) (t : TransferArgs) (k : Nat) : Runs [doneEvent n t k] s (hookDone s n t k).2 := by
  unfold hookDone
  split <;> exact runs_hookCall s n _

theorem runs_hookTransferRead (s : State) (n : BitVec 4) (t : TransferArgs) (k : Nat) :
    Runs [.hook n (.ldcstcRead k t.d t.crd t.uopt t.imm8)] s (hookTransferRead s n t k).2 := by
  unfold hookTransferRead
  split <;> exact runs_hookCall s n _

theorem runs_hookTransferWrite (s : State) (n : BitVec 4) (t : TransferArgs) (k : Nat) (v : Word) :
    Runs [.hook n (.ldcstcWrite k t.d t.crd t.uopt t.imm8 v)] s (hookTransferWrite s n t k v) := by
  have hkeeps := evolves_hookTransferWrite s n t k v
  unfold hookTransferWrite at hkeeps ⊢
  split at hkeeps
  · exact runs_hookSet hkeeps
  · exact runs_hookCall s n _

/-! ### The loops of LDC and STC -/

/-- What the end of a loop from `s` says: the work done, or the call that the port refused. -/
def LoopRuns (s : State) : LoopResult → Prop
  | .finished t => ∃ made, Runs made s t
  | .faulted code t => CallRefused code s t
  | .endless => True

theorem Runs.loopRuns {made : List Event} {s t : State} (h : Runs made s t) {r : LoopResult} (hr : LoopRuns t r) : LoopRuns s r := by
  cases r with
  | finished u =>
    obtain ⟨more, hmore⟩ := hr
    exact ⟨_, h.trans hmore⟩
  | faulted code u => exact h.callRefused hr
  | endless => trivial

theorem loopRuns_ldcLoop (n : BitVec 4) (t : TransferArgs) (left k : Nat) (a : Word) (s : State) :
    LoopRuns s (ldcLoop n t left k a s) := by
  have hdone := runs_hookDone s n t k
  induction left generalizing k a s with
  | zero =>
    unfold ldcLoop
    split
    · exact ⟨_, hdone⟩
    · trivial
  | succ left ih =>
    unfold ldcLoop
    split
    · exact ⟨_, hdone⟩
    · have hread := portRuns_memRead (hookDone s n t k).2 a .word false
      split
      · rename_i v s' h
        rw [h] at hread
        obtain ⟨made, hmade⟩ := hread
        exact (hdone.trans (hmade.trans (runs_hookTransferWrite s' n t k v))).loopRuns (ih _ _ _ (runs_hookDone _ n t _))
      · rename_i code s' h
        rw [h] at hread
        exact hdone.callRefused hread

theorem loopRuns_stcLoop (n : BitVec 4) (t : TransferArgs) (left k : Nat) (a : Word) (s : State) :
    LoopRuns s (stcLoop n t left k a s) := by
  have hdone := runs_hookDone s n t k
  induction left generalizing k a s with
  | zero =>
    unfold stcLoop
    split
    · exact ⟨_, hdone⟩
    · trivial
  | succ left ih =>
    unfold stcLoop
    split
    · exact ⟨_, hdone⟩
    · have hword := runs_hookTransferRead (hookDone s n t k).2 n t k
      have hwrite := portRuns_memWrite (hookTransferRead (hookDone s n t k).2 n t k).2 a .word
        (hookTransferRead (hookDone s n t k).2 n t k).1 false
      dsimp only
      split
      · rename_i v s' h
        rw [h] at hwrite
        obtain ⟨made, hmade⟩ := hwrite
        exact (hdone.trans (hword.trans hmade)).loopRuns (ih _ _ _ (runs_hookDone _ n t _))
      · rename_i code s' h
        rw [h] at hwrite
        exact (hdone.trans hword).callRefused hwrite

/-- After four words the reference coprocessor answers `ldcstc_done` with true (R335). -/
theorem hookDone_reference {s : State} (ha : AllReference s) {n : BitVec 4} (hn : (s.cop n).isSome = true) (t : TransferArgs) {k : Nat}
    (hk : 4 ≤ k) : (hookDone s n t k).1 = true := by
  obtain ⟨o, ho⟩ := Option.isSome_iff_exists.1 hn
  obtain ⟨r, hr⟩ := ha n o ho
  have hunit : s.copUnit n = .reference r := by simp [State.copUnit, ho, hr]
  cases hd : t.d <;> simp [hookDone, hunit, hd] <;> omega

theorem cop_isSome_setCopUnit (s : State) (n k : BitVec 4) (u : CopUnit) : ((s.setCopUnit n u).cop k).isSome = (s.cop k).isSome := by
  rw [cop_setCopUnit]
  split
  · next h => rw [h, Option.isSome_map]
  · rfl

theorem cop_isSome_hookTransferWrite (s : State) (n k : BitVec 4) (t : TransferArgs) (j : Nat) (v : Word) :
    ((hookTransferWrite s n t j v).cop k).isSome = (s.cop k).isSome := by
  unfold hookTransferWrite
  split
  · exact cop_isSome_setCopUnit _ n k _
  · rfl

theorem coprocs_hookDone (s : State) (n : BitVec 4) (t : TransferArgs) (k : Nat) : (hookDone s n t k).2.coprocs = s.coprocs := by
  unfold hookDone
  split <;> rfl

theorem coprocs_hookTransferRead (s : State) (n : BitVec 4) (t : TransferArgs) (k : Nat) :
    (hookTransferRead s n t k).2.coprocs = s.coprocs := by
  unfold hookTransferRead
  split <;> rfl

theorem coprocs_memRead {s t : State} {a v : Word} {n : Size} {u : Bool} (h : memRead s a n u = .ok v t) : t.coprocs = s.coprocs := by
  obtain ⟨_, e⟩ | ⟨_, e⟩ := memRead_cases s a n u <;> rw [e] at h <;> cases h
  rfl

theorem coprocs_memWrite {s t : State} {a v : Word} {n : Size} {u : Bool} (h : memWrite s a n v u = .ok () t) :
    t.coprocs = s.coprocs := by
  obtain ⟨_, e⟩ | ⟨_, e⟩ := memWrite_cases s a n v u <;> rw [e] at h <;> cases h
  rfl

/-- With reference coprocessors only, an LDC that is allowed four words ends (R469). -/
theorem ldcLoop_ends {n : BitVec 4} (t : TransferArgs) (left k : Nat) (a : Word) {s : State} (ha : AllReference s)
    (hn : (s.cop n).isSome = true) (hk : 4 ≤ left + k) : ldcLoop n t left k a s ≠ .endless := by
  have hrun := runs_hookDone s n t k
  induction left generalizing k a s with
  | zero =>
    rw [ldcLoop, if_pos (hookDone_reference ha hn t (by omega))]
    exact LoopResult.noConfusion
  | succ left ih =>
    unfold ldcLoop
    split
    · exact LoopResult.noConfusion
    · have hread := portRuns_memRead (hookDone s n t k).2 a .word false
      split
      · rename_i v s' h
        rw [h] at hread
        obtain ⟨made, hmade⟩ := hread
        refine ih (k + 1) (a + 4#32) ((hrun.trans (hmade.trans (runs_hookTransferWrite s' n t k v))).references ha) ?_ (by omega)
          (runs_hookDone _ n t _)
        rw [cop_isSome_hookTransferWrite, cop_congr ((coprocs_memRead h).trans (coprocs_hookDone s n t k))]
        exact hn
      · exact LoopResult.noConfusion

/-- The same of STC. -/
theorem stcLoop_ends {n : BitVec 4} (t : TransferArgs) (left k : Nat) (a : Word) {s : State} (ha : AllReference s)
    (hn : (s.cop n).isSome = true) (hk : 4 ≤ left + k) : stcLoop n t left k a s ≠ .endless := by
  induction left generalizing k a s with
  | zero =>
    rw [stcLoop, if_pos (hookDone_reference ha hn t (by omega))]
    exact LoopResult.noConfusion
  | succ left ih =>
    unfold stcLoop
    split
    · exact LoopResult.noConfusion
    · dsimp only
      split
      · rename_i v s' h
        have hcops : s'.coprocs = s.coprocs :=
          (coprocs_memWrite h).trans ((coprocs_hookTransferRead _ n t k).trans (coprocs_hookDone s n t k))
        exact ih (k + 1) (a + 4#32) (allReference_congr hcops ha) (cop_congr hcops n ▸ hn) (by omega)
      · exact LoopResult.noConfusion

/-! ### Status values -/

theorem getLsbD_withFlags_low (psr : Word) (n z c v : Bool) {k : Nat} (hk : k < 28) :
    (withFlags psr n z c v).getLsbD k = psr.getLsbD k := by
  rw [withFlags, BitVec.getLsbD_append, if_pos hk, BitVec.getLsbD_extractLsb', decide_eq_true hk, Bool.true_and, Nat.zero_add]

theorem extractLsb'_withFlags (psr : Word) (n z c v : Bool) : (withFlags psr n z c v).extractLsb' 0 28 = psr.extractLsb' 0 28 := by
  refine BitVec.eq_of_getLsbD_eq fun k hk => ?_
  rw [BitVec.getLsbD_extractLsb', BitVec.getLsbD_extractLsb', Nat.zero_add, getLsbD_withFlags_low psr n z c v hk]

theorem flagsOf_withFlags (psr : Word) (n z c v : Bool) : flagN (withFlags psr n z c v) = n ∧ flagZ (withFlags psr n z c v) = z ∧
    flagC (withFlags psr n z c v) = c ∧ flagV (withFlags psr n z c v) = v := by
  refine ⟨?_, ?_, ?_, ?_⟩
  all_goals
    simp only [flagN, flagZ, flagC, flagV, withFlags]
    repeat rw [BitVec.getLsbD_append]
    simp

theorem getLsbD_mergeBits (old value mask : Word) {k : Nat} (hk : k < 32) :
    (mergeBits old value mask).getLsbD k = if mask.getLsbD k then value.getLsbD k else old.getLsbD k := by
  rw [mergeBits, BitVec.getLsbD_or, BitVec.getLsbD_and, BitVec.getLsbD_and, BitVec.getLsbD_not, decide_eq_true hk]
  cases mask.getLsbD k <;> simp

/-- Two words agree outside a mask when their bits there do. -/
theorem and_not_eq_iff (x y mask : Word) :
    x &&& ~~~mask = y &&& ~~~mask ↔ ∀ k, k < 32 → mask.getLsbD k = false → x.getLsbD k = y.getLsbD k := by
  have hbit (w : Word) (k : Nat) (hk : k < 32) : (w &&& ~~~mask).getLsbD k = (w.getLsbD k && !mask.getLsbD k) := by
    rw [BitVec.getLsbD_and, BitVec.getLsbD_not, decide_eq_true hk, Bool.true_and]
  constructor
  · intro h k hk hm
    have := congrArg (fun w => w.getLsbD k) h
    simpa only [hbit _ k hk, hm, Bool.not_false, Bool.and_true] using this
  · intro h
    refine BitVec.eq_of_getLsbD_eq fun k hk => ?_
    rw [hbit x k hk, hbit y k hk]
    cases hm : mask.getLsbD k
    · rw [h k hk hm]
    · simp only [Bool.not_true, Bool.and_false]

theorem userWriteMask_high : ∀ k, k < 32 → 28 ≤ k → userWriteMask.getLsbD k = true := by decide

theorem withFlags_userWriteMask (psr : Word) (n z c v : Bool) :
    withFlags psr n z c v &&& ~~~userWriteMask = psr &&& ~~~userWriteMask := by
  refine (and_not_eq_iff _ _ _).2 fun k hk hm => getLsbD_withFlags_low psr n z c v ?_
  by_contra hhigh
  rw [userWriteMask_high k hk (by omega)] at hm
  cases hm

theorem mergeBits_userWriteMask (old value mask : Word) :
    mergeBits old value (mask &&& userWriteMask) &&& ~~~userWriteMask = old &&& ~~~userWriteMask := by
  refine (and_not_eq_iff _ _ _).2 fun k hk hm => ?_
  rw [getLsbD_mergeBits _ _ _ hk, BitVec.getLsbD_and, hm, Bool.and_false, if_neg Bool.false_ne_true]

/-! ### How an invocation ends -/

/-- A status an instruction may leave behind: what it may write at all (R30, R32, R35), what User mode may (R33), and a legal mode (R31). -/
structure StatusAllowed (i : Instr) (s : State) (cpsr : Word) (spsr : SpsrBank) : Prop where
  saved : ¬ writesSpsr i → spsr = s.spsr
  low : ¬ writesCpsr i → cpsr.extractLsb' 0 28 = s.cpsr.extractLsb' 0 28
  flags : ¬ writesCpsr i → ¬ setsFlags i → cpsr = s.cpsr
  user : s.mode = .usr → spsr = s.spsr ∧ cpsr &&& ~~~userWriteMask = s.cpsr &&& ~~~userWriteMask
  legal : legalMode s.cpsr = true → legalMode cpsr = true

/-- The ways an invocation of `i` in `s` can end. -/
inductive Ended (i : Instr) (s : State) : Out → Prop
  /-- R423. -/
  | refused (why : Reason) : Ended i s (refuse s why)
  /-- R381: the loaded status is refused after the two reads of RFE. -/
  | refusedRfe (cond : Cond) (p u w : Bool) (rn : RegIdx) (addr : Word) (why : Reason) (h : i = .hypRfe cond p u w rn) :
    Ended i s (refuse ((s.called (.read addr .word false)).called (.read (addr + 4#32) .word false)) why)
  /-- R421. -/
  | ok {made : List Event} {t : State} (target cpsr : Word) (spsr : SpsrBank) (events : List Event) (hruns : Runs made s t)
    (hstatus : StatusAllowed i s cpsr spsr) :
    Ended i s (.next { t with pc := target, cpsr := cpsr, spsr := spsr, events := events, result := some .ok })
  /-- R422. -/
  | fault {code : Nat} {t : State} (h : CallRefused code s t) : Ended i s (guestFault t code)
  /-- R424. -/
  | undef {made : List Event} {t : State} (hi : reachesHook i = true) (hhooks : ∀ e ∈ made, isHookCall e = true) (hruns : Runs made s t)
    (hsame : t.regs = s.regs ∧ t.mem = s.mem ∧ t.coprocs = s.coprocs) : Ended i s (injectUndef t)
  /-- R469. -/
  | endless (hi : isTransferLoop i = true) (hs : ¬ AllReference s) : Ended i s (.fault .endlessTransfer)

theorem StatusAllowed.same (i : Instr) (s : State) : StatusAllowed i s s.cpsr s.spsr where
  saved := fun _ => rfl
  low := fun _ => rfl
  flags := fun _ _ => rfl
  user := fun _ => ⟨rfl, rfl⟩
  legal := id

/-- New flags of an instruction that sets them, or writes the CPSR. -/
theorem StatusAllowed.withFlags {i : Instr} (s : State) (n z c v : Bool) (h : ¬ writesCpsr i → setsFlags i) :
    StatusAllowed i s (withFlags s.cpsr n z c v) s.spsr where
  saved := fun _ => rfl
  low := fun _ => extractLsb'_withFlags s.cpsr n z c v
  flags := fun hc hf => absurd (h hc) hf
  user := fun _ => ⟨rfl, withFlags_userWriteMask s.cpsr n z c v⟩
  legal := fun h => (legalMode_withFlags s.cpsr n z c v).trans h

/-- A legal CPSR that an instruction of R32's list writes outside User mode. -/
theorem StatusAllowed.privileged {i : Instr} {s : State} {cpsr : Word} (hi : writesCpsr i) (hm : s.mode ≠ .usr)
    (hlegal : legalMode cpsr = true) : StatusAllowed i s cpsr s.spsr where
  saved := fun _ => rfl
  low := fun h => absurd hi h
  flags := fun h => absurd hi h
  user := fun h => absurd h hm
  legal := fun _ => hlegal

/-- What `CpsrUpdate` gives (R33). -/
theorem StatusAllowed.cpsrUpdate {i : Instr} {s t : State} {value mask : Word} (hi : writesCpsr i)
    (h : s.cpsrUpdate value mask = some t) : StatusAllowed i s t.cpsr s.spsr where
  saved := fun _ => rfl
  low := fun h => absurd hi h
  flags := fun h => absurd hi h
  user := fun hm => by
    refine ⟨rfl, ?_⟩
    simp only [State.cpsrUpdate, hm, if_true] at h
    split at h <;> cases h
    exact mergeBits_userWriteMask s.cpsr value mask
  legal := fun _ => (cpsrUpdate_some h).1

section
variable {i : Instr} {s : State}

theorem Ended.refusing {l : List (Bool × Reason)} {k : Out} (h : (∀ p ∈ l, p.1 = false) → Ended i s k) : Ended i s (refusing s l k) := by
  obtain ⟨why, _, hr⟩ | ⟨hnone, hr⟩ := refusing_cases s l k <;> rw [hr]
  · exact .refused why
  · exact h hnone

theorem Ended.refuseUnless {b : Bool} {why : Reason} {k : Out} (h : b = true → Ended i s k) :
    Ended i s (if b then k else refuse s why) := by
  cases b with
  | true => exact h rfl
  | false => exact .refused why

theorem Ended.advance {made : List Event} {t : State} (h : Runs made s t) : Ended i s (advance t) := by
  have hstatus : StatusAllowed i s t.cpsr t.spsr := by
    rw [h.keeps.cpsr, h.keeps.spsr]
    exact .same i s
  exact .ok (t.pc + 4#32) _ _ t.events h hstatus

theorem Ended.gated {cond : Cond} {k : Out} (h : Ended i s k) : Ended i s (gated cond s k) := by
  unfold Machine.gated
  split
  · exact h
  · exact .advance (.refl s)

theorem Ended.orFault {α : Type} {r : PortResult α} {k : α → State → Out} (hr : PortRuns s r)
    (hk : ∀ v t made, r = .ok v t → Runs made s t → Ended i s (k v t)) : Ended i s (r.orFault k) := by
  cases r with
  | ok v t =>
    obtain ⟨made, hmade⟩ := hr
    exact hk v t made rfl hmade
  | err code t => exact .fault hr

theorem Ended.finish {r : LoopResult} {k : State → Out} (hr : LoopRuns s r)
    (hend : r = .endless → isTransferLoop i = true ∧ ¬ AllReference s) (hk : ∀ t made, Runs made s t → Ended i s (k t)) :
    Ended i s (r.finish k) := by
  cases r with
  | finished t =>
    obtain ⟨made, hmade⟩ := hr
    exact hk t made hmade
  | faulted code t => exact .fault hr
  | endless =>
    obtain ⟨hi, hs⟩ := hend rfl
    exact .endless hi hs

theorem Ended.injects (hi : reachesHook i = true) : Ended i s (injectUndef s) := .undef hi (by simp) (.refl s) ⟨rfl, rfl, rfl⟩

/-- A hook that declines is called, and has changed nothing. -/
theorem Ended.declines {n : BitVec 4} {c : HookCall} {t : State} (hi : reachesHook i = true) (ht : t = s.called (.hook n c)) :
    Ended i s (injectUndef t) := by
  subst ht
  exact .undef hi (by simp [isHookCall]) (runs_hookCall s n c) ⟨rfl, rfl, rfl⟩

theorem Ended.exceptionReturn {made : List Event} {t : State} {saved newpc : Word} (h : Runs made s t) (hi : writesCpsr i)
    (hm : s.mode ≠ .usr) (hlegal : legalMode saved = true) : Ended i s (exceptionReturn t saved newpc) := by
  have hstatus : StatusAllowed i s saved t.spsr := by
    rw [h.keeps.spsr]
    exact .privileged hi hm hlegal
  exact .ok newpc saved _ _ h hstatus

theorem Ended.branchTo {made : List Event} {t : State} (target : Word) (h : Runs made s t) : Ended i s (branchTo t target) := by
  have hstatus : StatusAllowed i s t.cpsr t.spsr := by
    rw [h.keeps.cpsr, h.keeps.spsr]
    exact .same i s
  exact .ok target _ _ t.events h hstatus

theorem Ended.cpsrWrite {value mask : Word} (hi : writesCpsr i) : Ended i s (cpsrWrite s value mask) := by
  unfold Machine.cpsrWrite
  split
  · rename_i t ht
    have hok := Ended.ok (s.pc + 4#32) _ _ s.events (.refl s) (StatusAllowed.cpsrUpdate hi ht)
    rw [(cpsrUpdate_some ht).2]
    exact hok
  · exact .refused .illegalMode

/-! ### The families -/

theorem spsr?_some_mode {saved : Word} (h : s.spsr? = some saved) : s.mode ≠ .usr := by
  intro hm
  simp [State.spsr?, hm, State.spsrOf] at h

theorem ended_loadSteps (k : LoadKind) (user : Bool) (cond : Cond) (wback : Bool) (address wb : Word) (rn rt : RegIdx) :
    Ended i s (loadSteps k user cond wback address wb rn rt s) :=
  .gated <| .orFault (portRuns_memRead s _ _ _) fun _ t _ _ ht =>
    .advance ((ht.trans_nil (runs_setX t rt _)).trans_nil (runs_writeBack _ wback rn wb))

theorem ended_storeSteps (size : Size) (user : Bool) (cond : Cond) (wback : Bool) (address wb : Word) (rn rt : RegIdx) :
    Ended i s (storeSteps size user cond wback address wb rn rt s) :=
  .gated <| .orFault (portRuns_memWrite s _ _ _ _) fun _ t _ _ ht => .advance (ht.trans_nil (runs_writeBack t wback rn wb))

theorem ended_loadDoubleSteps (cond : Cond) (wback : Bool) (address wb : Word) (rn rt : RegIdx) :
    Ended i s (loadDoubleSteps cond wback address wb rn rt s) :=
  .gated <| .orFault ((portRuns_memRead s _ _ _).andThen fun _ t => (portRuns_memRead t _ _ _).andThen fun _ t' => ⟨[], .refl t'⟩)
    fun _ t _ _ ht => .advance
      (((ht.trans_nil (runs_setX t rt _)).trans_nil (runs_setX _ (rt + 1#4) _)).trans_nil (runs_writeBack _ wback rn wb))

theorem ended_storeDoubleSteps (cond : Cond) (wback : Bool) (address wb : Word) (rn rt : RegIdx) :
    Ended i s (storeDoubleSteps cond wback address wb rn rt s) :=
  .gated <| .orFault ((portRuns_memWrite s _ _ _ _).andThen fun _ t => portRuns_memWrite t _ _ _ _) fun _ t _ _ ht =>
    .advance (ht.trans_nil (runs_writeBack t wback rn wb))

theorem ended_dataProcessing (op : AluOp) (cond : Cond) (sf : Bool) (rn rd : RegIdx) (operand : Word × Bool)
    (hi : sf = true → setsFlags i) : Ended i s (dataProcessing op cond sf rn rd operand s) := by
  refine .refusing fun _ => .gated ?_
  have hset := runs_setX s rd (alu op (s.x rn) operand.1 (flagC s.cpsr) operand.2).value
  cases sf with
  | false => exact .advance hset
  | true =>
    have hstatus := StatusAllowed.withFlags (i := i) s ((alu op (s.x rn) operand.1 (flagC s.cpsr) operand.2).value.getLsbD 31)
      (decide ((alu op (s.x rn) operand.1 (flagC s.cpsr) operand.2).value = 0#32))
      (alu op (s.x rn) operand.1 (flagC s.cpsr) operand.2).carry
      ((alu op (s.x rn) operand.1 (flagC s.cpsr) operand.2).overflow.getD (flagV s.cpsr)) fun _ => hi rfl
    have h := Ended.ok (s.pc + 4#32) _ _ s.events hset hstatus
    simpa [Machine.advance, flagsAfter] using h

theorem ended_stm (p u : Bool) (cond : Cond) (w : Bool) (rn : RegIdx) (l : BitVec 16) : Ended i s (stm p u cond w rn l s) :=
  .refusing fun _ => .gated <| .orFault
    ((runs_emitRange s _ l).portRuns ((portRuns_storeRegisters s.mode _ _ _).andThen fun a t => portRuns_storePc l a t))
    fun _ t _ _ ht => .advance (ht.trans_nil (runs_writeBack t w rn _))

/-- What the loop of a load and the word after it say. -/
theorem ended_loadThenRead {m : Mode} (ns : List RegIdx) (start a : Word) (l : BitVec 16) (hm : s.mode = .usr → m = .usr)
    {k : Word → State → Out} (hk : ∀ addr t made, Runs made s t → Ended i s (k addr t)) :
    Ended i s ((loadRegisters m ns start (s.emitRange a l)).orFault k) :=
  .orFault ((runs_emitRange s a l).portRuns (portRuns_loadRegisters ns start hm)) fun addr t made _ ht => hk addr t made ht

theorem ended_ldm (p u : Bool) (cond : Cond) (w : Bool) (rn : RegIdx) (l : BitVec 16) : Ended i s (ldm p u cond w rn l s) := by
  refine .refusing fun _ => .gated <| ended_loadThenRead _ _ _ l id fun addr t made ht => ?_
  split
  · refine .orFault (s := s) (ht.portRuns (portRuns_memRead t _ _ _)) fun v t' _ _ ht' => ?_
    exact .branchTo _ (ht'.trans_nil (runs_writeBack t' w rn _))
  · exact .advance (ht.trans_nil (runs_writeBack t w rn _))

theorem copWith_some {n : BitVec 4} {needs : Hooks → Bool} {o : CopObject} (h : s.copWith n needs = some o) :
    s.cop n = some o ∧ needs o.hooks = true := by
  unfold State.copWith at h
  split at h
  · rename_i o' ho
    split at h
    · cases h
      exact ⟨ho, by assumption⟩
    · cases h
  · cases h

theorem cop_hookAccept (n : BitVec 4) (t : TransferArgs) : (hookAccept s n t).2.coprocs = s.coprocs := by
  unfold hookAccept
  split <;> rfl

theorem hookAccept_state (n : BitVec 4) (t : TransferArgs) : (hookAccept s n t).2 = s.called (acceptEvent n t) := by
  unfold hookAccept
  split <;> rfl

/-- Only on a coprocessor the spec says nothing of can the loop miss its end: the reference coprocessor's bound is four words. -/
theorem loopBound_endless {n : BitVec 4} {o : CopObject} (ho : s.cop n = some o) (ha : AllReference s) : loopBound o.unit = 4 := by
  obtain ⟨r, hr⟩ := ha n o ho
  rw [hr]
  rfl

theorem ended_ldcSteps (hi : isTransferLoop i = true) (hh : reachesHook i = true) (p u w : Bool) (base : Word) (rn n : BitVec 4)
    (t : TransferArgs) : Ended i s (ldcSteps p u w base rn n t s) := by
  unfold ldcSteps
  split
  · exact .injects hh
  · rename_i o ho
    have hcop := (copWith_some ho).1
    have haccept := runs_hookAccept s n t
    split
    · refine .finish (haccept.loopRuns (loopRuns_ldcLoop n t _ 0 _ _)) (fun hend => ⟨hi, fun ha => ?_⟩) fun r _ hr =>
        .advance (hr.trans_nil (runs_writeBack r w rn _))
      have hsome : ((hookAccept s n t).2.cop n).isSome = true := by rw [cop_congr (cop_hookAccept n t), hcop]; rfl
      exact ldcLoop_ends t _ 0 _ (haccept.references ha) hsome (by rw [loopBound_endless hcop ha]) hend
    · exact .declines hh (hookAccept_state n t)

theorem ended_stcSteps (hi : isTransferLoop i = true) (hh : reachesHook i = true) (p u w : Bool) (base : Word) (rn n : BitVec 4)
    (t : TransferArgs) : Ended i s (stcSteps p u w base rn n t s) := by
  unfold stcSteps
  split
  · exact .injects hh
  · rename_i o ho
    have hcop := (copWith_some ho).1
    have haccept := runs_hookAccept s n t
    split
    · refine .finish (haccept.loopRuns (loopRuns_stcLoop n t _ 0 _ _)) (fun hend => ⟨hi, fun ha => ?_⟩) fun r _ hr =>
        .advance (hr.trans_nil (runs_writeBack r w rn _))
      have hsome : ((hookAccept s n t).2.cop n).isSome = true := by rw [cop_congr (cop_hookAccept n t), hcop]; rfl
      exact stcLoop_ends t _ 0 _ (haccept.references ha) hsome (by rw [loopBound_endless hcop ha]) hend
    · exact .declines hh (hookAccept_state n t)

end

end Sys2Proof.Machine
end

section
/-! Every instruction ends in one of the ways of `Ended`; what the statements over all instructions say follows from that. -/

namespace Sys2Proof.Machine

/-! ### The coprocessor hooks when they decline -/

theorem hookRead_state (s : State) (n : BitVec 4) (o1 o2 : BitVec 3) (cn cm : BitVec 4) :
    (hookRead s n o1 o2 cn cm).2 = s.called (.hook n (.read o1 o2 cn cm)) := by
  unfold hookRead
  split <;> rfl

theorem hookRead2_state (s : State) (n o1 cm : BitVec 4) : (hookRead2 s n o1 cm).2 = s.called (.hook n (.read2 o1 cm)) := by
  unfold hookRead2
  split <;> rfl

theorem hookWrite_declined {s : State} {n : BitVec 4} {o1 o2 : BitVec 3} {cn cm : BitVec 4} {v : Word}
    (h : (hookWrite s n o1 o2 cn cm v).1 = false) :
    (hookWrite s n o1 o2 cn cm v).2 = s.called (.hook n (.write o1 o2 cn cm v)) := by
  unfold hookWrite at h ⊢
  split at h
  · cases h
  · rfl

theorem hookWrite2_declined {s : State} {n o1 cm : BitVec 4} {v w : Word} (h : (hookWrite2 s n o1 cm v w).1 = false) :
    (hookWrite2 s n o1 cm v w).2 = s.called (.hook n (.write2 o1 cm v w)) := by
  unfold hookWrite2 at h ⊢
  split at h
  · cases h
  · rfl

theorem hookDataProcess_declined {s : State} {n o1 : BitVec 4} {o2 : BitVec 3} {cd cn cm : BitVec 4}
    (h : (hookDataProcess s n o1 o2 cd cn cm).1 = false) :
    (hookDataProcess s n o1 o2 cd cn cm).2 = s.called (.hook n (.dataProcess o1 o2 cd cn cm)) := by
  unfold hookDataProcess at h ⊢
  split at h
  · dsimp only at h ⊢
    split at h
    · cases h
    · next hne => rw [if_neg hne]
  · rfl

/-! ### The equations of the coprocessor instructions -/

section
variable (cond : Cond) (o1 o2 : BitVec 3) (cn rt rt2 n cm p1 cd : BitVec 4) (s : State)

theorem exec_mcr_none (h : s.copWith n Hooks.write = none) : exec (.mcr cond o1 cn rt n o2 cm) s =
    refusing s [(rt == 15#4, .registers)] (gated cond s (injectUndef s)) := by
  show execMcr cond o1 cn rt n o2 cm s = _
  rw [execMcr, h]

theorem exec_mcr_some {o : CopObject} (h : s.copWith n Hooks.write = some o) : exec (.mcr cond o1 cn rt n o2 cm) s =
    refusing s [(rt == 15#4, .registers)] (gated cond s
      (if (hookWrite s n o1 o2 cn cm (s.x rt)).1 then advance (hookWrite s n o1 o2 cn cm (s.x rt)).2
        else injectUndef (hookWrite s n o1 o2 cn cm (s.x rt)).2)) := by
  show execMcr cond o1 cn rt n o2 cm s = _
  rw [execMcr, h]

theorem exec_mcrr_none (h : s.copWith n Hooks.write2 = none) : exec (.mcrr cond rt2 rt n p1 cm) s =
    refusing s [(rt == 15#4, .registers), (rt2 == 15#4, .registers)] (gated cond s (injectUndef s)) := by
  show execMcrr cond rt2 rt n p1 cm s = _
  rw [execMcrr, h]

theorem exec_mcrr_some {o : CopObject} (h : s.copWith n Hooks.write2 = some o) : exec (.mcrr cond rt2 rt n p1 cm) s =
    refusing s [(rt == 15#4, .registers), (rt2 == 15#4, .registers)] (gated cond s
      (if (hookWrite2 s n p1 cm (s.x rt) (s.x rt2)).1 then advance (hookWrite2 s n p1 cm (s.x rt) (s.x rt2)).2
        else injectUndef (hookWrite2 s n p1 cm (s.x rt) (s.x rt2)).2)) := by
  show execMcrr cond rt2 rt n p1 cm s = _
  rw [execMcrr, h]

theorem exec_cdp_none (h : s.copWith n Hooks.dataProcess = none) : exec (.cdp cond p1 cn cd n o2 cm) s = gated cond s (injectUndef s) := by
  show execCdp cond p1 cn cd n o2 cm s = _
  rw [execCdp, h]

theorem exec_cdp_some {o : CopObject} (h : s.copWith n Hooks.dataProcess = some o) : exec (.cdp cond p1 cn cd n o2 cm) s =
    gated cond s (if (hookDataProcess s n p1 o2 cd cn cm).1 then advance (hookDataProcess s n p1 o2 cd cn cm).2
      else injectUndef (hookDataProcess s n p1 o2 cd cn cm).2) := by
  show execCdp cond p1 cn cd n o2 cm s = _
  rw [execCdp, h]

theorem exec_mrc_none (h : s.copWith n Hooks.read = none) : exec (.mrc cond o1 cn rt n o2 cm) s = gated cond s (injectUndef s) := by
  show execMrc cond o1 cn rt n o2 cm s = _
  rw [execMrc, h]

theorem exec_mrc_answers {o : CopObject} {v : Word} (h : s.copWith n Hooks.read = some o) (hv : (hookRead s n o1 o2 cn cm).1 = some v) :
    exec (.mrc cond o1 cn rt n o2 cm) s =
      gated cond s (advance ((s.called (.hook n (.read o1 o2 cn cm))).setMrcTarget rt v)) := by
  show execMrc cond o1 cn rt n o2 cm s = _
  rw [execMrc, h, ← hookRead_state]
  dsimp only
  rw [hv]

theorem exec_mrc_declines {o : CopObject} (h : s.copWith n Hooks.read = some o) (hv : (hookRead s n o1 o2 cn cm).1 = none) :
    exec (.mrc cond o1 cn rt n o2 cm) s = gated cond s (injectUndef (s.called (.hook n (.read o1 o2 cn cm)))) := by
  show execMrc cond o1 cn rt n o2 cm s = _
  rw [execMrc, h, ← hookRead_state]
  dsimp only
  rw [hv]

theorem exec_mrrc_none (h : s.copWith n Hooks.read2 = none) : exec (.mrrc cond rt2 rt n p1 cm) s =
    refusing s [(rt == 15#4, .registers), (rt2 == 15#4, .registers), (rt == rt2, .registers)] (gated cond s (injectUndef s)) := by
  show execMrrc cond rt2 rt n p1 cm s = _
  rw [execMrrc, h]

theorem exec_mrrc_answers {o : CopObject} {v : Word × Word} (h : s.copWith n Hooks.read2 = some o) (hv : (hookRead2 s n p1 cm).1 = some v) :
    exec (.mrrc cond rt2 rt n p1 cm) s =
      refusing s [(rt == 15#4, .registers), (rt2 == 15#4, .registers), (rt == rt2, .registers)]
        (gated cond s (advance (((s.called (.hook n (.read2 p1 cm))).setX rt v.1).setX rt2 v.2))) := by
  show execMrrc cond rt2 rt n p1 cm s = _
  rw [execMrrc, h, ← hookRead2_state]
  dsimp only
  rw [hv]

theorem exec_mrrc_declines {o : CopObject} (h : s.copWith n Hooks.read2 = some o) (hv : (hookRead2 s n p1 cm).1 = none) :
    exec (.mrrc cond rt2 rt n p1 cm) s =
      refusing s [(rt == 15#4, .registers), (rt2 == 15#4, .registers), (rt == rt2, .registers)]
        (gated cond s (injectUndef (s.called (.hook n (.read2 p1 cm))))) := by
  show execMrrc cond rt2 rt n p1 cm s = _
  rw [execMrrc, h, ← hookRead2_state]
  dsimp only
  rw [hv]

end

/-! ### The families that are left -/

section
variable {i : Instr} {s : State}

theorem ended_setMrcTarget {t : State} {made : List Event} (h : Runs made s t) (rt : RegIdx) (v : Word)
    (hi : rt = 15#4 → setsFlags i) : Ended i s (advance (t.setMrcTarget rt v)) := by
  by_cases hrt : rt = 15#4
  · have hstatus := StatusAllowed.withFlags (i := i) s (flagN v) (flagZ v) (flagC v) (flagV v) fun _ => hi hrt
    have hok := Ended.ok (t.pc + 4#32) _ _ t.events h hstatus
    have hcpsr := h.keeps.cpsr
    have hspsr := h.keeps.spsr
    simpa [State.setMrcTarget, hrt, advance, hcpsr, ← hspsr] using hok
  · rw [State.setMrcTarget, if_neg hrt]
    exact .advance (h.trans_nil (runs_setX t rt v))

theorem ended_mcr (cond : Cond) (o1 : BitVec 3) (cn rt n : BitVec 4) (o2 : BitVec 3) (cm : BitVec 4) :
    Ended (.mcr cond o1 cn rt n o2 cm) s (exec (.mcr cond o1 cn rt n o2 cm) s) := by
  cases hcop : s.copWith n Hooks.write with
  | none => rw [exec_mcr_none _ _ _ _ _ _ _ _ hcop]; exact .refusing fun _ => .gated (.injects rfl)
  | some o =>
    rw [exec_mcr_some _ _ _ _ _ _ _ _ hcop]
    refine .refusing fun _ => .gated ?_
    cases hans : (hookWrite s n o1 o2 cn cm (s.x rt)).1 with
    | true => exact .advance (runs_hookWrite s n o1 o2 cn cm _)
    | false => exact .declines rfl (hookWrite_declined hans)

theorem ended_mcrr (cond : Cond) (rt2 rt n o1 cm : BitVec 4) :
    Ended (.mcrr cond rt2 rt n o1 cm) s (exec (.mcrr cond rt2 rt n o1 cm) s) := by
  cases hcop : s.copWith n Hooks.write2 with
  | none => rw [exec_mcrr_none _ _ _ _ _ _ _ hcop]; exact .refusing fun _ => .gated (.injects rfl)
  | some o =>
    rw [exec_mcrr_some _ _ _ _ _ _ _ hcop]
    refine .refusing fun _ => .gated ?_
    cases hans : (hookWrite2 s n o1 cm (s.x rt) (s.x rt2)).1 with
    | true => exact .advance (runs_hookWrite2 s n o1 cm _ _)
    | false => exact .declines rfl (hookWrite2_declined hans)

theorem ended_cdp (cond : Cond) (o1 cn cd n : BitVec 4) (o2 : BitVec 3) (cm : BitVec 4) :
    Ended (.cdp cond o1 cn cd n o2 cm) s (exec (.cdp cond o1 cn cd n o2 cm) s) := by
  cases hcop : s.copWith n Hooks.dataProcess with
  | none => rw [exec_cdp_none _ _ _ _ _ _ _ _ hcop]; exact .gated (.injects rfl)
  | some o =>
    rw [exec_cdp_some _ _ _ _ _ _ _ _ hcop]
    refine .gated ?_
    cases hans : (hookDataProcess s n o1 o2 cd cn cm).1 with
    | true => exact .advance (runs_hookDataProcess s n o1 o2 cd cn cm)
    | false => exact .declines rfl (hookDataProcess_declined hans)

theorem ended_mrc (cond : Cond) (o1 : BitVec 3) (cn rt n : BitVec 4) (o2 : BitVec 3) (cm : BitVec 4) :
    Ended (.mrc cond o1 cn rt n o2 cm) s (exec (.mrc cond o1 cn rt n o2 cm) s) := by
  cases hcop : s.copWith n Hooks.read with
  | none => rw [exec_mrc_none _ _ _ _ _ _ _ _ hcop]; exact .gated (.injects rfl)
  | some o =>
    cases hans : (hookRead s n o1 o2 cn cm).1 with
    | some v =>
      rw [exec_mrc_answers _ _ _ _ _ _ _ _ hcop hans]
      exact .gated (ended_setMrcTarget (runs_hookCall s n _) rt v fun h => .inr ⟨cond, o1, cn, n, o2, cm, h ▸ rfl⟩)
    | none =>
      rw [exec_mrc_declines _ _ _ _ _ _ _ _ hcop hans]
      exact .gated (.declines rfl rfl)

theorem ended_mrrc (cond : Cond) (rt2 rt n o1 cm : BitVec 4) :
    Ended (.mrrc cond rt2 rt n o1 cm) s (exec (.mrrc cond rt2 rt n o1 cm) s) := by
  cases hcop : s.copWith n Hooks.read2 with
  | none => rw [exec_mrrc_none _ _ _ _ _ _ _ hcop]; exact .refusing fun _ => .gated (.injects rfl)
  | some o =>
    cases hans : (hookRead2 s n o1 cm).1 with
    | some v =>
      rw [exec_mrrc_answers _ _ _ _ _ _ _ hcop hans]
      exact .refusing fun _ => .gated (.advance (((runs_hookCall s n _).trans_nil (runs_setX _ rt _)).trans_nil (runs_setX _ rt2 _)))
    | none =>
      rw [exec_mrrc_declines _ _ _ _ _ _ _ hcop hans]
      exact .refusing fun _ => .gated (.declines rfl rfl)

/-- Writing an SPSR, outside User mode. -/
theorem ended_setSpsrOf (m : Mode) (v : Word) (hi : writesSpsr i) (hm : s.mode ≠ .usr) : Ended i s (advance (s.setSpsrOf m v)) := by
  have hstatus : StatusAllowed i s s.cpsr (s.setSpsrOf m v).spsr :=
    { saved := fun h => absurd hi h, low := fun _ => rfl, flags := fun _ _ => rfl, user := fun h => absurd h hm, legal := id }
  have hok := Ended.ok (s.pc + 4#32) _ _ s.events (.refl s) hstatus
  cases m <;> exact hok

theorem ended_msr (src : MsrSource) (cond : Cond) (r : Bool) (mask : BitVec 4) :
    Ended (src.instr cond r mask) s (exec (src.instr cond r mask) s) := by
  rw [exec_msr]
  refine .refuseUnless fun _ => ?_
  unfold msrSteps
  split
  · exact .refused .mode
  · rename_i old hold
    refine .gated ?_
    cases r with
    | true => exact ended_setSpsrOf _ _ ⟨cond, mask, src, rfl⟩ (spsr?_some_mode hold)
    | false => exact .cpsrWrite (.inr (.inl ⟨cond, mask, src, rfl⟩))

theorem ended_rfe (cond : Cond) (p u w : Bool) (rn : RegIdx) : Ended (.hypRfe cond p u w rn) s (exec (.hypRfe cond p u w rn) s) := by
  show Ended _ s (execHypRfe cond p u w rn s)
  refine .refusing fun hnone => .gated ?_
  have hm : s.mode ≠ .usr := by simpa using hnone (decide (s.mode = .usr), .mode) (by simp)
  refine .orFault (portRuns_memRead s _ _ _) fun newpc t made ht hruns => ?_
  refine .orFault (s := s) (hruns.portRuns (portRuns_memRead t _ _ _)) fun newcpsr t' _ ht' hruns' => ?_
  split
  · exact .exceptionReturn (hruns'.trans_nil (runs_writeBack t' w rn _)) (.inr (.inr (.inl ⟨cond, p, u, w, rn, rfl⟩))) hm (by assumption)
  · obtain ⟨_, e⟩ | ⟨_, e⟩ := memRead_cases s (blockStart p u (s.x rn) 8#32) .word false <;> rw [e] at ht <;> cases ht
    obtain ⟨_, e'⟩ | ⟨_, e'⟩ := memRead_cases (s.called (.read (blockStart p u (s.x rn) 8#32) .word false))
      (blockStart p u (s.x rn) 8#32 + 4#32) .word false <;> rw [e'] at ht' <;> cases ht'
    exact .refusedRfe cond p u w rn _ .illegalMode rfl

theorem ended_srsSteps (p u w : Bool) (m : Mode) (saved : Word) (hm : s.mode ≠ .usr) : Ended i s (srsSteps p u w m saved s) := by
  refine .orFault ((portRuns_memWrite s _ _ _ _).andThen fun _ t => portRuns_memWrite t _ _ _ _) fun _ t made _ ht => ?_
  have hmode : t.mode ≠ .usr := ht.keeps.mode ▸ hm
  cases w with
  | true => exact .advance (ht.trans_nil (runs_setXm (fun h => absurd h hmode) 13#4 _))
  | false => exact .advance ht

theorem ended_srs (cond : Cond) (p u w : Bool) (mode : BitVec 5) :
    Ended (.hypSrs cond p u w mode) s (exec (.hypSrs cond p u w mode) s) := by
  show Ended _ s (execHypSrs cond p u w mode s)
  unfold execHypSrs
  split
  · exact .refused .mode
  · rename_i saved hsaved
    split
    · exact .refused .illegalMode
    · exact .gated (ended_srsSteps p u w _ saved (spsr?_some_mode hsaved))

theorem ended_ldmExceptionReturn (cond : Cond) (p u w : Bool) (rn : RegIdx) (l : BitVec 16) :
    Ended (.hypLdmExceptionReturn cond p u w rn l) s (exec (.hypLdmExceptionReturn cond p u w rn l) s) := by
  show Ended _ s (execHypLdmExceptionReturn cond p u w rn l s)
  unfold execHypLdmExceptionReturn
  split
  · exact .refused .mode
  · rename_i saved hsaved
    refine .refusing fun hnone => .gated <| ended_loadThenRead _ _ _ l id fun addr t made ht => ?_
    have hlegal : legalMode saved = true := by simpa using hnone (!legalMode saved, .illegalMode) (by simp)
    refine .orFault (s := s) (ht.portRuns (portRuns_memRead t _ _ _)) fun newpc t' _ _ ht' => ?_
    exact .exceptionReturn (ht'.trans_nil (runs_writeBack t' w rn _)) (.inr (.inr (.inr (.inl ⟨cond, p, u, w, rn, l, rfl⟩))))
      (spsr?_some_mode hsaved) hlegal

theorem ended_subsPc (op : AluOp) (cond : Cond) (rn : RegIdx) (operand : Word × Bool) (hi : writesCpsr i) :
    Ended i s (subsPc op cond rn operand s) := by
  unfold subsPc
  split
  · exact .refused .mode
  · rename_i saved hsaved
    refine .refusing fun hnone => .gated ?_
    have hlegal : legalMode saved = true := by simpa using hnone (!legalMode saved, .illegalMode) (by simp)
    exact .exceptionReturn (.refl s) hi (spsr?_some_mode hsaved) hlegal

end

/-- Every instruction in every state ends in one of the ways of `Ended`. -/
theorem exec_ended (i : Instr) (s : State) : Ended i s (exec i s) := by
  induction i using byFamily with
  | dataProcessing op cond sf rn rd o =>
    rw [exec_dpInstr]
    exact ended_dataProcessing op cond sf rn rd _ fun h => .inl ⟨op, cond, rn, rd, o, h ▸ rfl⟩
  | movw cond rd v => exact .refusing fun _ => .gated (.advance (runs_setX s rd _))
  | load f cond idx u rn rt => rw [exec_load]; exact .refuseUnless fun _ => ended_loadSteps _ _ _ _ _ _ _ _
  | loadT f cond u rn rt => rw [exec_loadT]; exact .refuseUnless fun _ => ended_loadSteps _ _ _ _ _ _ _ _
  | literal f cond idx u rt => rw [exec_literal]; exact .refuseUnless fun _ => ended_loadSteps _ _ _ _ _ _ _ _
  | store f cond idx u rn rt => rw [exec_store]; exact .refuseUnless fun _ => ended_storeSteps _ _ _ _ _ _ _ _
  | storeT f cond u rn rt => rw [exec_storeT]; exact .refuseUnless fun _ => ended_storeSteps _ _ _ _ _ _ _ _
  | ldrd cond idx u rn rt o => rw [exec_ldrd]; exact .refuseUnless fun _ => ended_loadDoubleSteps _ _ _ _ _ _
  | ldrdLiteral cond idx u rt v => rw [exec_ldrdLiteral]; exact .refuseUnless fun _ => ended_loadDoubleSteps _ _ _ _ _ _
  | strd cond idx u rn rt o => rw [exec_strd]; exact .refuseUnless fun _ => ended_storeDoubleSteps _ _ _ _ _ _
  | ldrex cond rn rt =>
    rw [exec_ldrex]
    exact .refuseUnless fun _ => .gated <| .orFault (portRuns_memReadX s _) fun v t _ _ ht => .advance (ht.trans_nil (runs_setX t rt v))
  | strex cond rn rd rt =>
    rw [exec_strex]
    exact .refuseUnless fun _ => .gated <| .orFault (portRuns_memWriteX s _ _) fun _ t _ _ ht => .advance (ht.trans_nil (runs_setX t rd _))
  | ldm a cond w rn l => rw [exec_ldm]; exact ended_ldm _ _ _ _ _ _
  | stm a cond w rn l => rw [exec_stm]; exact ended_stm _ _ _ _ _ _
  | stc cond p u d w rn crd n v => exact .refusing fun _ => .gated (ended_stcSteps rfl rfl _ _ _ _ _ _ _)
  | ldcImmediate cond p u d w rn crd n v => exact .gated (ended_ldcSteps rfl rfl _ _ _ _ _ _ _)
  | ldcLiteral cond p u d w crd n v => exact .refusing fun _ => .gated (ended_ldcSteps rfl rfl _ _ _ _ _ _ _)
  | mcrr cond rt2 rt n o1 cm => exact ended_mcrr cond rt2 rt n o1 cm
  | mrrc cond rt2 rt n o1 cm => exact ended_mrrc cond rt2 rt n o1 cm
  | mcr cond o1 cn rt n o2 cm => exact ended_mcr cond o1 cn rt n o2 cm
  | mrc cond o1 cn rt n o2 cm => exact ended_mrc cond o1 cn rt n o2 cm
  | cdp cond o1 cn cd n o2 cm => exact ended_cdp cond o1 cn cd n o2 cm
  | hypCps cond imod m a ii f mode =>
    refine .refusing fun _ => .gated ?_
    split
    · exact .advance (.refl s)
    · exact .cpsrWrite (.inl ⟨cond, imod, m, a, ii, f, mode, rfl⟩)
  | hypMrs cond r rd =>
    show Ended _ s (execHypMrs cond r rd s)
    refine .refusing fun _ => ?_
    split
    · exact .refused .mode
    · exact .gated (.advance (runs_setX s rd _))
  | hypMsr src cond r mask => exact ended_msr src cond r mask
  | hypRfe cond p u w rn => exact ended_rfe cond p u w rn
  | hypSrs cond p u w mode => exact ended_srs cond p u w mode
  | hypWfi cond => exact .gated (.advance (runs_emitAll s [.irqWait] (by simp [isPortCall, isMemoryCall, isHookCall])))
  | hypLdmExceptionReturn cond p u w rn l => exact ended_ldmExceptionReturn cond p u w rn l
  | hypLdmUserRegisters cond p u w rn l =>
    exact .refusing fun _ => .gated <| ended_loadThenRead _ _ _ l (fun _ => rfl) fun _ _ _ ht => .advance ht
  | hypStmUserRegisters cond p u rn l =>
    exact .refusing fun _ => .gated <| .orFault
      ((runs_emitRange s _ l).portRuns ((portRuns_storeRegisters .usr _ _ _).andThen fun a t => portRuns_storePc l a t))
      fun _ _ _ _ ht => .advance ht
  | subsPc op cond rn o =>
    rw [exec_subsPcInstr]
    exact ended_subsPc op cond rn _ (.inr (.inr (.inr (.inr ⟨op, cond, rn, o, rfl⟩))))
  | doublewordP0W1 => exact .refused .doublewordP0W1
  | mediaSpace => exact .refused .media
  | blockNativeS => exact .refused .nativeS
  | b => exact .refused .branch
  | bl => exact .refused .branch
  | vfpSpace => exact .refused .vfpSimd
  | cpSpace1100000x => exact .refused .coprocessorCell
  | hypSubid7 => exact .refused .reservedHypercall

/-! ### What follows for every instruction -/

theorem Evolves.sameEnvironment {s t : State} (h : Evolves s t) : SameEnvironment s t := ⟨h.port, h.page, h.layout, h.hyp⟩

/-- An invocation from a running state of the invariant ends in a state of the invariant. -/
theorem Ended.inv {i : Instr} {s t : State} {out : Out} (h : Ended i s out) (hmode : legalMode s.cpsr = true) (hmem : s.mem.wf = true)
    (hcops : ∀ n, copWf (s.cop n) = true) (hpage : pageSizeOk s.ttblMinPageSize = true) (hrun : s.halted = false)
    (hout : out = .next t) : Inv t := by
  have hkept {r : State} (hr : Evolves s r) : r.mem.wf = true ∧ (∀ n, copWf (r.cop n) = true) ∧ pageSizeOk r.ttblMinPageSize = true :=
    ⟨hr.mem hmem, hr.cops hcops, hr.page ▸ hpage⟩
  cases h with
  | refused why => cases hout; exact ⟨hmode, hmem, hcops, hpage, by simp⟩
  | refusedRfe cond p u w rn addr why _ => cases hout; exact ⟨hmode, hmem, hcops, hpage, by simp⟩
  | @ok _ r target cpsr spsr events hruns hstatus =>
    cases hout
    obtain ⟨hm, hc, hp⟩ := hkept hruns.keeps
    exact ⟨hstatus.legal hmode, hm, hc, hp, by simp [hruns.keeps.halted, hrun]⟩
  | @fault code r hcall =>
    cases hout
    obtain ⟨made, r', e, hruns, rfl, _⟩ := hcall
    obtain ⟨hm, hc, hp⟩ := hkept hruns.keeps
    exact ⟨hruns.keeps.cpsr ▸ hmode, hm, hc, hp, by simp [hruns.keeps.halted, hrun]⟩
  | @undef made r hi hhooks hruns hsame =>
    cases hout
    obtain ⟨hm, hc, hp⟩ := hkept hruns.keeps
    exact ⟨hruns.keeps.cpsr ▸ hmode, hm, hc, hp, by simp [hruns.keeps.halted, hrun]⟩
  | endless hi hs => cases hout

theorem precondition_eq_none_iff {s : State} :
    precondition s = none ↔ s.halted = false ∧ legalMode s.cpsr = true ∧ pageSizeOk s.ttblMinPageSize = true := by
  cases hh : s.halted <;> cases hm : legalMode s.cpsr <;> cases hp : pageSizeOk s.ttblMinPageSize <;> simp [precondition, hh, hm, hp]

/-- A step that answers has passed its preconditions, and has run an instruction or refused the word. -/
theorem step_cases {s t : State} (h : step s = .next t) : precondition s = none ∧
    ((∃ i, decodeIn s.hypLayout s.hyp (fetchWord s) = .ok i ∧ exec i s.begin = .next t) ∨
      ∃ why, decodeIn s.hypLayout s.hyp (fetchWord s) = .error why ∧ refuse s.begin (.unmapped why) = .next t) := by
  unfold step at h
  split at h
  · cases h
  · next hpre =>
    split at h
    · next why hdec => exact ⟨hpre, .inr ⟨why, hdec, h⟩⟩
    · next i hdec => exact ⟨hpre, .inl ⟨i, hdec, h⟩⟩

/-- Settles O15: a step refuses the word or runs an instruction, which keeps the invariant however it ends. -/
theorem stepKeepsInv : Obligations.StepKeepsInv := by
  intro s t hs h
  obtain ⟨hpre, hstep⟩ := step_cases h
  have hrun := (precondition_eq_none_iff.1 hpre).1
  obtain ⟨i, _, hexec⟩ | ⟨why, _, hrefuse⟩ := hstep
  · exact (exec_ended i s.begin).inv hs.mode hs.mem hs.cops hs.page hrun hexec
  · exact (Ended.refused (i := .hypWfi 0#4) (s := s.begin) (.unmapped why)).inv hs.mode hs.mem hs.cops hs.page hrun hrefuse

/-- Settles O25: of the ways to end, only the endless loop has no next state. -/
theorem invocationEnds : Obligations.InvocationEnds := by
  intro i s hends
  have h := exec_ended i s
  generalize exec i s = out at h
  cases h with
  | refused why => exact ⟨_, rfl, rfl⟩
  | refusedRfe cond p u w rn addr why _ => exact ⟨_, rfl, rfl⟩
  | ok target cpsr spsr events hruns hstatus => exact ⟨_, rfl, rfl⟩
  | fault hcall => exact ⟨_, rfl, rfl⟩
  | undef hi hhooks hruns hsame => exact ⟨_, rfl, rfl⟩
  | endless hi hs =>
    obtain hno | href := hends
    · rw [hi] at hno
      cases hno
    · exact absurd href hs

/-- Settles O26: a refusal is the first thing an instruction does, or comes after the two reads of RFE. -/
theorem refusalKeepsState : Obligations.RefusalKeepsState := by
  intro i s t why hexec hresult
  have h := exec_ended i s
  rw [hexec] at h
  generalize hout : (Host.Outcome.next t : Out) = out at h
  cases h with
  | refused why' =>
    obtain ⟨_, hr, hhalts⟩ := refuse_halts s why'
    cases hr
    cases hout
    exact .inl hhalts
  | refusedRfe cond p u w rn addr why' hi =>
    cases hout
    refine .inr ⟨cond, p, u, w, rn, addr, hi, ⟨rfl, rfl, rfl, rfl, rfl, rfl, rfl, rfl, rfl, rfl⟩, rfl, ?_, why', rfl⟩
    simp
  | ok target cpsr spsr events hruns hstatus => cases hout; cases hresult
  | fault hcall => cases hout; cases hresult
  | undef hi hhooks hruns hsame => cases hout; cases hresult
  | endless hi hs => cases hout

/-- Settles O27: a fault comes from a memory call that the port refused, after work whose calls it accepted. -/
theorem guestFaultStops : Obligations.GuestFaultStops := by
  intro i s t code hexec hresult
  have h := exec_ended i s
  rw [hexec] at h
  generalize hout : (Host.Outcome.next t : Out) = out at h
  cases h with
  | fault hcall =>
    cases hout
    cases hresult
    obtain ⟨made, r, e, hruns, rfl, hmem, hcode, hne⟩ := hcall
    exact ⟨hne, hruns.keeps.pc, ⟨hruns.keeps.cpsr, hruns.keeps.spsr⟩, hruns.keeps.halted, hruns.keeps.sameEnvironment, made, e,
      by simp [hruns.events], hmem, hcode, hruns.accepted⟩
  | refused why => cases hout; cases hresult
  | refusedRfe cond p u w rn addr why hi => cases hout; cases hresult
  | ok target cpsr spsr events hruns hstatus => cases hout; cases hresult
  | undef hi hhooks hruns hsame => cases hout; cases hresult
  | endless hi hs => cases hout

/-- Settles O28: the injection comes after hook calls only, which have changed nothing. -/
theorem undefInjectedKeepsState : Obligations.UndefInjectedKeepsState := by
  intro i s t hexec hresult
  have h := exec_ended i s
  rw [hexec] at h
  generalize hout : (Host.Outcome.next t : Out) = out at h
  cases h with
  | @undef made r hi hhooks hruns hsame =>
    cases hout
    obtain ⟨hregs, hmem, hcops⟩ := hsame
    have hk := hruns.keeps
    exact ⟨hi, made, hhooks, ⟨hregs, hk.pc, hk.cpsr, hk.spsr, hmem, hcops, hk.sameEnvironment⟩, hk.halted, by simp [hruns.events], rfl⟩
  | refused why => cases hout; cases hresult
  | refusedRfe cond p u w rn addr why hi => cases hout; cases hresult
  | ok target cpsr spsr events hruns hstatus => cases hout; cases hresult
  | fault hcall => cases hout; cases hresult
  | endless hi hs => cases hout

/-- What an instruction leaves of the status and, in User mode, of the registers. -/
theorem exec_status {i : Instr} {s t : State} (hexec : exec i s = .next t) : StatusAllowed i s t.cpsr t.spsr ∧
    (s.mode = .usr → ∀ p : PReg, (∀ n : RegIdx, userBank n ≠ some p) → t.reg p = s.reg p) := by
  have h := exec_ended i s
  rw [hexec] at h
  generalize hout : (Host.Outcome.next t : Out) = out at h
  have hruns {made : List Event} {r : State} (hr : Runs made s r) : StatusAllowed i s r.cpsr r.spsr := by
    rw [hr.keeps.cpsr, hr.keeps.spsr]
    exact .same i s
  cases h with
  | refused why => cases hout; exact ⟨.same i s, fun _ _ _ => rfl⟩
  | refusedRfe cond p u w rn addr why hi => cases hout; exact ⟨.same _ s, fun _ _ _ => rfl⟩
  | ok target cpsr spsr events hr hstatus => cases hout; exact ⟨hstatus, hr.userRegs⟩
  | fault hcall =>
    cases hout
    obtain ⟨made, r, e, hr, rfl, _⟩ := hcall
    have hsame := hruns hr
    exact ⟨hsame, hr.userRegs⟩
  | undef hi hhooks hr _ =>
    cases hout
    have hsame := hruns hr
    exact ⟨hsame, hr.userRegs⟩
  | endless hi hs => cases hout

/-- The mode field lies outside the bits a User-mode write can change. -/
theorem modeField_of_userWriteMask {x y : Word} (h : x &&& ~~~userWriteMask = y &&& ~~~userWriteMask) : modeField x = modeField y := by
  have hlow : ∀ k, k < 5 → userWriteMask.getLsbD k = false := by decide
  refine BitVec.eq_of_getLsbD_eq fun k hk => ?_
  rw [modeField, modeField, BitVec.getLsbD_extractLsb', BitVec.getLsbD_extractLsb', Nat.zero_add]
  rw [(and_not_eq_iff x y _).1 h k (by omega) (hlow k hk)]

/-- Settles O29: what User mode may write of the status leaves the mode field, and its register writes go to its own bank. -/
theorem userModeConfined : Obligations.UserModeConfined := by
  intro i s t _ hm hexec
  obtain ⟨hstatus, hregs⟩ := exec_status hexec
  obtain ⟨hspsr, hcpsr⟩ := hstatus.user hm
  have hmode : t.mode = s.mode := by rw [State.mode, State.mode, modeField_of_userWriteMask hcpsr]
  exact ⟨hmode.trans hm, hspsr, hcpsr, hregs hm⟩

/-- Settles O30: the status an instruction leaves is one it may write. -/
theorem statusWriters : Obligations.StatusWriters := by
  intro i s t hexec
  obtain ⟨hstatus, _⟩ := exec_status hexec
  exact ⟨hstatus.saved, hstatus.low, hstatus.flags⟩

end Sys2Proof.Machine
end

/-! ## Proofs: refusals and the condition -/

section
/-! Every instruction is refused, or looks at its condition and does its work. What it is refused for is a list of tests, which read the
mode and the SPSR of the state and never the flags. -/

namespace Sys2Proof.Machine

/-! ### Meanings as a list of refusals -/

section
variable (cond : Cond) (p u w : Bool) (rn : RegIdx) (l : BitVec 16) (s : State)

theorem exec_dataProcessing (op : AluOp) (sf : Bool) (rd : RegIdx) (o : Operand2) : exec (dpInstr op cond sf rn rd o) s =
    refusing s [(rd == 15#4, .registers)] (gated cond s (advance
      (if sf then { s.setX rd (alu op (s.x rn) (o.value s).1 (flagC s.cpsr) (o.value s).2).value with
          cpsr := flagsAfter s.cpsr (alu op (s.x rn) (o.value s).1 (flagC s.cpsr) (o.value s).2) }
        else s.setX rd (alu op (s.x rn) (o.value s).1 (flagC s.cpsr) (o.value s).2).value))) :=
  exec_dpInstr op cond sf rn rd o s

theorem exec_hypMrs (r : Bool) (rd : RegIdx) : exec (.hypMrs cond r rd) s =
    refusing s [(rd == 15#4, .registers), ((s.psr? r).isNone, .mode)] (gated cond s (advance (s.setX rd ((s.psr? r).getD 0#32)))) := by
  show execHypMrs cond r rd s = _
  unfold execHypMrs
  cases s.psr? r <;> rfl

theorem exec_hypMsr (src : MsrSource) (r : Bool) (mask : BitVec 4) : exec (src.instr cond r mask) s =
    refusing s [(!src.legal, .registers), ((s.psr? r).isNone, .mode)]
      (gated cond s (psrWrite s r ((s.psr? r).getD 0#32) (src.value s) (byteMask mask))) := by
  rw [exec_msr, msrSteps]
  cases src.legal <;> cases s.psr? r <;> rfl

theorem exec_hypSrs (mode : BitVec 5) : exec (.hypSrs cond p u w mode) s =
    refusing s [(s.spsr?.isNone, .mode), ((modeOfBits mode).isNone, .illegalMode)]
      (gated cond s (srsSteps p u w ((modeOfBits mode).getD .usr) (s.spsr?.getD 0#32) s)) := by
  show execHypSrs cond p u w mode s = _
  unfold execHypSrs
  cases s.spsr? <;> cases modeOfBits mode <;> rfl

theorem exec_hypLdmExceptionReturn : exec (.hypLdmExceptionReturn cond p u w rn l) s =
    refusing s [(s.spsr?.isNone, .mode), (rn == 15#4, .registers), (w && inList l rn, .registers),
      (!legalMode (s.spsr?.getD 0#32), .illegalMode)] (gated cond s (loadMultipleReturn p u w rn l (s.spsr?.getD 0#32) s)) := by
  show execHypLdmExceptionReturn cond p u w rn l s = _
  unfold execHypLdmExceptionReturn
  cases s.spsr? <;> rfl

theorem exec_subsPc (op : AluOp) (o : Operand2) : exec (subsPcInstr op cond rn o) s =
    refusing s [(s.spsr?.isNone, .mode), (!legalMode (s.spsr?.getD 0#32), .illegalMode)]
      (gated cond s (exceptionReturn s (s.spsr?.getD 0#32) (alu op (s.x rn) (o.value s).1 (flagC s.cpsr) (o.value s).2).value)) := by
  rw [exec_subsPcInstr, subsPc]
  cases s.spsr? <;> rfl

end

/-! ### Refused outright -/

theorem refusing_refuses (s : State) {l : List (Bool × Reason)} (k : Out) (h : l.any Prod.fst = true) :
    ∃ why, refusing s l k = refuse s why := by
  obtain ⟨why, _, hr⟩ | ⟨hnone, _⟩ := refusing_cases s l k
  · exact ⟨why, hr⟩
  · obtain ⟨p, hp, hit⟩ := List.any_eq_true.1 h
    rw [hnone p hp] at hit
    cases hit

theorem refused_of_any {i : Instr} {s : State} {l : List (Bool × Reason)} {k : Out} (h : exec i s = refusing s l k)
    (hl : l.any Prod.fst = true) : Refused i s := by
  obtain ⟨why, hr⟩ := refusing_refuses s k hl
  rw [Refused, h, hr]
  exact refuse_halts s why

theorem refused_of_ite {i : Instr} {s : State} {legal : Bool} {why : Reason} {k : Out}
    (h : exec i s = if legal then k else refuse s why) (hl : legal = false) : Refused i s := by
  rw [Refused, h, hl]
  exact refuse_halts s why

/-- Settles O23: each of the eight rows is a refusal. -/
theorem refusedRows : Obligations.RefusedRows := fun s =>
  ⟨fun _ _ _ => refuse_halts s _, fun _ _ _ _ _ _ _ => refuse_halts s _, fun _ _ => refuse_halts s _, fun _ _ => refuse_halts s _,
    fun _ _ _ _ _ => refuse_halts s _, fun _ _ _ _ _ _ => refuse_halts s _, fun _ _ => refuse_halts s _,
    fun _ _ _ _ _ _ _ => refuse_halts s _⟩

/-- Settles O40: the legal registers are those of the tests that each family makes first. -/
theorem transferRefusals : Obligations.TransferRefusals := by
  intro cond idx u rn rt rd s
  refine ⟨fun f h => refused_of_ite (exec_load cond idx u rn rt s f) h, fun f h => refused_of_ite (exec_loadT cond u rn rt s f) h,
    fun f h => refused_of_ite (exec_literal cond idx u rt s f) ?_, fun f h => refused_of_ite (exec_store cond idx u rn rt s f) h,
    fun f h => refused_of_ite (exec_storeT cond u rn rt s f) h, fun o h => refused_of_ite (exec_ldrd cond idx u rn rt s o) h,
    fun o h => refused_of_ite (exec_strd cond idx u rn rt s o) h, fun v h => refused_of_ite (exec_ldrdLiteral cond idx u rt s v) ?_,
    fun h => refused_of_ite (exec_ldrex cond rn rt s) ?_, fun h => refused_of_ite (exec_strex cond rn rt s rd) ?_⟩
  · obtain rfl | hw := h
    · rfl
    · rw [hw, Bool.not_true, Bool.and_false]
  · obtain hodd | rfl | hw := h
    · rw [hodd]; rfl
    · simp
    · rw [hw, Bool.not_true, Bool.and_false]
  · obtain rfl | rfl := h <;> simp
  · obtain rfl | rfl | rfl | rfl | rfl := h <;> simp

/-- Settles O44: each register combination is one of the instruction's tests. -/
theorem registerRefusals : Obligations.RegisterRefusals := by
  intro cond s
  refine ⟨fun op sf rn o => refused_of_any (exec_dataProcessing cond rn s op sf 15#4 o) rfl,
    fun v => refuse_halts s .registers, fun a w rn l h => refused_of_any (exec_ldm a cond w rn l s) ?_,
    fun a w rn l h => refused_of_any (exec_stm a cond w rn l s) ?_, fun p u d w crd n v => refuse_halts s .registers,
    fun p u d crd n v => refuse_halts s .registers, fun rt2 rt n o1 cm h => ?_, fun rt2 rt n o1 cm h => ?_,
    fun o1 cn n o2 cm => refuse_halts s .registers⟩
  · obtain rfl | rfl | ⟨rfl, hrn⟩ := h
    · rfl
    · simp [ldmRefusals]
    · simp [ldmRefusals, inList, hrn]
  · obtain rfl | rfl := h
    · rfl
    · simp [stmRefusals]
  · have hexec : exec (.mcrr cond rt2 rt n o1 cm) s = _ := rfl
    refine refused_of_any (l := [(rt == 15#4, .registers), (rt2 == 15#4, .registers)]) hexec ?_
    obtain rfl | rfl := h <;> simp
  · have hexec : exec (.mrrc cond rt2 rt n o1 cm) s = _ := rfl
    refine refused_of_any (l := [(rt == 15#4, .registers), (rt2 == 15#4, .registers), (rt == rt2, .registers)]) hexec ?_
    obtain rfl | rfl | rfl := h <;> simp

theorem spsrOf_isNone (s : State) (m : Mode) : (s.spsrOf m).isNone = !hasSpsr m := by cases m <;> rfl

/-- Settles O59: a register, a mode, or a status that one of the tests of the hypercall names. -/
theorem hypercallRefusals : Obligations.HypercallRefusals := by
  intro cond s
  refine ⟨fun imod a i f mode hm hmode => ?_, fun r => refused_of_any (exec_hypMrs cond s r 15#4) rfl,
    fun r mask => refused_of_any (exec_hypMsr cond s (.reg 15#4) r mask) rfl, fun p u w rn h => ?_,
    fun p u w mode h => refused_of_any (exec_hypSrs cond p u w s mode) ?_,
    fun p u w rn l h => refused_of_any (exec_hypLdmExceptionReturn cond p u w rn l s) ?_, fun p u w rn l h => ?_, fun p u rn l h => ?_,
    fun hm => ?_, fun saved hsaved hlegal => ?_⟩
  · refine refused_of_any (l := [(true && decide (s.mode ≠ .usr) && (modeOfBits mode).isNone, .illegalMode)]) rfl ?_
    simp [hm, hmode]
  · refine refused_of_any (l := [(decide (s.mode = .usr), .mode), (rn == 15#4, .registers)]) rfl ?_
    obtain hm | rfl := h
    · simp [hm]
    · simp
  · simp [h]
  · obtain rfl | ⟨rfl, hl⟩ := h
    · simp
    · simp [inList, hl]
  · refine refused_of_any (l := [(!hasSpsr s.mode, .mode), (rn == 15#4, .registers), (w, .registers), (l == 0#16, .registers)]) rfl ?_
    obtain rfl | rfl | rfl := h <;> simp
  · refine refused_of_any (l := [(rn == 15#4, .registers), (l == 0#16, .registers)]) rfl ?_
    obtain rfl | rfl := h <;> simp
  · have hnone : s.spsr?.isNone = true := by rw [State.spsr?, spsrOf_isNone, hm]; rfl
    refine ⟨fun rd => refused_of_any (exec_hypMrs cond s true rd) ?_, fun mask src => refused_of_any (exec_hypMsr cond s src true mask) ?_,
      fun p u w mode => refused_of_any (exec_hypSrs cond p u w s mode) ?_,
      fun p u w rn l => refused_of_any (exec_hypLdmExceptionReturn cond p u w rn l s) ?_, fun p u w rn l => ?_,
      fun op rn o => refused_of_any (exec_subsPc cond rn s op o) ?_⟩
    · simpa [State.psr?] using .inr (Option.isNone_iff_eq_none.1 hnone)
    · simpa [State.psr?] using .inr (Option.isNone_iff_eq_none.1 hnone)
    · rw [List.any_cons, hnone]; rfl
    · rw [List.any_cons, hnone]; rfl
    · refine refused_of_any (l := [(!hasSpsr s.mode, .mode), (rn == 15#4, .registers), (w, .registers), (l == 0#16, .registers)]) rfl ?_
      rw [List.any_cons, hm]; rfl
    · rw [List.any_cons, hnone]; rfl
  · have hsome : s.spsr? = some saved := hsaved
    exact ⟨fun p u w rn l => refused_of_any (exec_hypLdmExceptionReturn cond p u w rn l s) (by simp [hsome, hlegal]),
      fun op rn o => refused_of_any (exec_subsPc cond rn s op o) (by simp [hsome, hlegal])⟩

/-! ### The condition -/

/-- The instruction looks at its condition, or is refused whatever the flags are. -/
def ConditionOrRefused (i : Instr) (s : State) : Prop :=
  (∃ work, exec i s = gated i.cond s work) ∨
    ∀ psr : Word, psr.extractLsb' 0 28 = s.cpsr.extractLsb' 0 28 → Refused i { s with cpsr := psr }

theorem mode_of_low {s : State} {psr : Word} (h : psr.extractLsb' 0 28 = s.cpsr.extractLsb' 0 28) :
    ({ s with cpsr := psr } : State).mode = s.mode := by
  have hfield : modeField psr = modeField s.cpsr := by
    refine BitVec.eq_of_getLsbD_eq fun k hk => ?_
    have hbit := congrArg (fun v => v.getLsbD k) h
    simpa [modeField, hk, show k < 28 by omega] using hbit
  simp only [State.mode, hfield]

theorem spsr?_of_low {s : State} {psr : Word} (h : psr.extractLsb' 0 28 = s.cpsr.extractLsb' 0 28) :
    ({ s with cpsr := psr } : State).spsr? = s.spsr? := by
  rw [State.spsr?, mode_of_low h, State.spsr?]
  cases s.mode <;> rfl

theorem psr?_isNone_of_low {s : State} {psr : Word} (h : psr.extractLsb' 0 28 = s.cpsr.extractLsb' 0 28) (r : Bool) :
    (({ s with cpsr := psr } : State).psr? r).isNone = (s.psr? r).isNone := by
  cases r with
  | true => exact congrArg Option.isNone (spsr?_of_low h)
  | false => rfl

/-- Refusals that read no flag, then the condition. -/
theorem conditionOrRefused_of_refusing {i : Instr} {cond : Cond} {l : State → List (Bool × Reason)} {k : State → Out}
    (hexec : ∀ s, exec i s = refusing s (l s) (gated cond s (k s))) (hcond : i.cond = cond) (s : State)
    (hl : ∀ psr : Word, psr.extractLsb' 0 28 = s.cpsr.extractLsb' 0 28 → l { s with cpsr := psr } = l s) : ConditionOrRefused i s := by
  cases hany : (l s).any Prod.fst with
  | true => exact .inr fun psr hpsr => refused_of_any (hexec _) (by rw [hl psr hpsr, hany])
  | false =>
    have hnone : ∀ q ∈ l s, q.1 = false := by simpa using hany
    exact .inl ⟨k s, by rw [hcond, hexec, refusing_of_false s _ _ hnone]⟩

theorem conditionOrRefused_of_ite {i : Instr} {cond : Cond} {legal : Bool} {why : Reason} {k : State → Out}
    (hexec : ∀ s, exec i s = if legal then gated cond s (k s) else refuse s why) (hcond : i.cond = cond) (s : State) :
    ConditionOrRefused i s := by
  subst hcond
  cases legal with
  | true => exact .inl ⟨k s, hexec s⟩
  | false => exact .inr fun psr _ => refused_of_ite (hexec _) rfl

/-! The condition of a family is its operand of that name. -/

theorem cond_dpInstr (op : AluOp) (cond : Cond) (sf : Bool) (rn rd : RegIdx) (o : Operand2) : (dpInstr op cond sf rn rd o).cond = cond := by
  cases o <;> cases op <;> rfl

theorem cond_subsPcInstr (op : AluOp) (cond : Cond) (rn : RegIdx) (o : Operand2) : (subsPcInstr op cond rn o).cond = cond := by
  cases o <;> cases op <;> rfl

theorem cond_load (f : LoadForm) (cond : Cond) (idx : Indexing) (u : Bool) (rn rt : RegIdx) : (f.instr cond idx u rn rt).cond = cond := by
  cases f with | ldr o | ldrb o | ldrh o | ldrsb o | ldrsh o => cases o <;> rfl

theorem cond_loadT (f : LoadForm) (cond : Cond) (u : Bool) (rn rt : RegIdx) : (f.instrT cond u rn rt).cond = cond := by
  cases f with | ldr o | ldrb o | ldrh o | ldrsb o | ldrsh o => cases o <;> rfl

theorem cond_store (f : StoreForm) (cond : Cond) (idx : Indexing) (u : Bool) (rn rt : RegIdx) : (f.instr cond idx u rn rt).cond = cond := by
  cases f with | str o | strb o | strh o => cases o <;> rfl

theorem cond_storeT (f : StoreForm) (cond : Cond) (u : Bool) (rn rt : RegIdx) : (f.instrT cond u rn rt).cond = cond := by
  cases f with | str o | strb o | strh o => cases o <;> rfl

theorem conditionOrRefused (i : Instr) (s : State) : ConditionOrRefused i s := by
  induction i using byFamily with
  | dataProcessing op cond sf rn rd o =>
    exact conditionOrRefused_of_refusing (fun s => exec_dataProcessing cond rn s op sf rd o) (cond_dpInstr ..) s fun _ _ => rfl
  | movw | hypStmUserRegisters | mcr | mcrr | mrrc | stc | ldcLiteral =>
    exact conditionOrRefused_of_refusing (fun _ => rfl) rfl s fun _ _ => rfl
  | ldm a cond w rn l => exact conditionOrRefused_of_refusing (exec_ldm a cond w rn l) (by cases a <;> rfl) s fun _ _ => rfl
  | stm a cond w rn l => exact conditionOrRefused_of_refusing (exec_stm a cond w rn l) (by cases a <;> rfl) s fun _ _ => rfl
  | load f cond idx u rn rt => exact conditionOrRefused_of_ite (fun s => exec_load cond idx u rn rt s f) (cond_load ..) s
  | loadT f cond u rn rt => exact conditionOrRefused_of_ite (fun s => exec_loadT cond u rn rt s f) (cond_loadT ..) s
  | literal f cond idx u rt => exact conditionOrRefused_of_ite (fun s => exec_literal cond idx u rt s f) (by cases f <;> rfl) s
  | store f cond idx u rn rt => exact conditionOrRefused_of_ite (fun s => exec_store cond idx u rn rt s f) (cond_store ..) s
  | storeT f cond u rn rt => exact conditionOrRefused_of_ite (fun s => exec_storeT cond u rn rt s f) (cond_storeT ..) s
  | ldrd cond idx u rn rt o => exact conditionOrRefused_of_ite (fun s => exec_ldrd cond idx u rn rt s o) (by cases o <;> rfl) s
  | strd cond idx u rn rt o => exact conditionOrRefused_of_ite (fun s => exec_strd cond idx u rn rt s o) (by cases o <;> rfl) s
  | ldrdLiteral cond idx u rt v => exact conditionOrRefused_of_ite (fun s => exec_ldrdLiteral cond idx u rt s v) rfl s
  | ldrex cond rn rt => exact conditionOrRefused_of_ite (fun s => exec_ldrex cond rn rt s) rfl s
  | strex cond rn rd rt => exact conditionOrRefused_of_ite (fun s => exec_strex cond rn rt s rd) rfl s
  | doublewordP0W1 | mediaSpace | blockNativeS | b | bl | vfpSpace | cpSpace1100000x | hypSubid7 =>
    exact .inr fun _ _ => refuse_halts _ _
  | ldcImmediate | mrc | cdp | hypWfi => exact .inl ⟨_, rfl⟩
  | hypCps cond imod m a i f mode =>
    refine conditionOrRefused_of_refusing (fun s => rfl) rfl s fun psr hpsr => ?_
    rw [mode_of_low hpsr]
  | hypMrs cond r rd =>
    refine conditionOrRefused_of_refusing (fun s => exec_hypMrs cond s r rd) rfl s fun psr hpsr => ?_
    rw [psr?_isNone_of_low hpsr]
  | hypMsr src cond r mask =>
    refine conditionOrRefused_of_refusing (fun s => exec_hypMsr cond s src r mask) (by cases src <;> rfl) s fun psr hpsr => ?_
    rw [psr?_isNone_of_low hpsr]
  | hypRfe cond p u w rn =>
    refine conditionOrRefused_of_refusing (fun s => rfl) rfl s fun psr hpsr => ?_
    rw [mode_of_low hpsr]
  | hypSrs cond p u w mode =>
    refine conditionOrRefused_of_refusing (fun s => exec_hypSrs cond p u w s mode) rfl s fun psr hpsr => ?_
    rw [spsr?_of_low hpsr]
  | hypLdmExceptionReturn cond p u w rn l =>
    refine conditionOrRefused_of_refusing (fun s => exec_hypLdmExceptionReturn cond p u w rn l s) rfl s fun psr hpsr => ?_
    rw [spsr?_of_low hpsr]
  | hypLdmUserRegisters cond p u w rn l =>
    refine conditionOrRefused_of_refusing (fun s => rfl) rfl s fun psr hpsr => ?_
    rw [mode_of_low hpsr]
  | subsPc op cond rn o =>
    refine conditionOrRefused_of_refusing (fun s => exec_subsPc cond rn s op o) (cond_subsPcInstr ..) s fun psr hpsr => ?_
    rw [spsr?_of_low hpsr]

/-- Settles O24: with a false condition the work is the plain advance, or a refusal comes before it; MSR and RFE with a legal register and
mode have no refusal before it. -/
theorem conditionFalse : Obligations.ConditionFalse := by
  refine ⟨fun i s hcond => ?_, fun cond r mask src s hcond hlegal hspsr => ?_, fun cond p u w rn s hcond hm hrn => ?_⟩
  · obtain ⟨work, hwork⟩ | hrefused := conditionOrRefused i s
    · exact .inl (hwork.trans (gated_false _ _ _ hcond))
    · exact .inr hrefused
  · have hsome : (s.psr? r).isNone = false := by
      cases r with
      | true => rw [State.psr?, if_pos rfl, State.spsr?, spsrOf_isNone, hspsr rfl]; rfl
      | false => rfl
    rw [exec_hypMsr, refusing_of_false _ _ _ (by simpa [hlegal] using hsome), gated_false _ _ _ hcond]
    rfl
  · have hexec : exec (.hypRfe cond p u w rn) s = _ := rfl
    exact (refusing_of_false _ _ _ (by simp [hm, hrn])).trans (gated_false _ _ _ hcond)

end Sys2Proof.Machine
end

/-! ## Proofs: shifts, the ALU and the conditions (R136 to R141, R148 to R151, R188 to R191) -/

section
/-! What each shift computes. Right shifts read 0 beyond bit 31, so one equation serves the amounts above 32 too; ASR is the floor of the
signed quotient at every amount. -/

namespace Sys2Proof.Machine

theorem shiftC_lsl (v : Word) {n : Nat} (c : Bool) (h : 1 ≤ n) : shiftC v .lsl n c = lslC v n := if_neg (by omega)

theorem shiftC_lsr (v : Word) {n : Nat} (c : Bool) (h : 1 ≤ n) : shiftC v .lsr n c = lsrC v n := if_neg (by omega)

theorem shiftC_asr (v : Word) {n : Nat} (c : Bool) (h : 1 ≤ n) : shiftC v .asr n c = asrC v n := if_neg (by omega)

theorem shiftC_ror (v : Word) {n : Nat} (c : Bool) (h : 1 ≤ n) : shiftC v .ror n c = rorC v n := if_neg (by omega)

theorem shiftC_zero (v : Word) (t : ShiftType) (c : Bool) (h : t ≠ .rrx) : shiftC v t 0 c = (v, c) := by
  cases t with
  | rrx => exact absurd rfl h
  | lsl | lsr | asr | ror => rfl

theorem lslC_toNat (v : Word) (n : Nat) : (lslC v n).1.toNat = v.toNat * 2 ^ n % 2 ^ 32 := by
  by_cases h : n ≤ 32
  · rw [lslC_value v h, BitVec.toNat_shiftLeft, Nat.shiftLeft_eq]
  · have hdvd : 2 ^ 32 ∣ v.toNat * 2 ^ n := Dvd.dvd.mul_left (Nat.pow_dvd_pow 2 (by omega)) _
    rw [lslC, if_neg h, Nat.mod_eq_zero_of_dvd hdvd]
    rfl

theorem lsrC_eq (v : Word) (n : Nat) : lsrC v n = (v >>> n, v.getLsbD (n - 1)) := by
  by_cases hn : n ≤ 32
  · rw [lsrC, if_pos hn]
  · rw [lsrC, if_neg hn, BitVec.ushiftRight_eq_zero (by omega), BitVec.getLsbD_of_ge _ _ (by omega)]

/-- ASR at every amount: from 32 on every bit is the sign. -/
theorem asrC_eq (v : Word) (n : Nat) : asrC v n = (v.sshiftRight n, if n < 32 then v.getLsbD (n - 1) else v.getLsbD 31) := by
  by_cases hn : n < 32
  · rw [asrC, if_pos hn, if_pos hn]
  · have hfill : v.sshiftRight n = if v.getLsbD 31 then 0xFFFFFFFF#32 else 0#32 := by
      refine BitVec.eq_of_getLsbD_eq fun i hi => ?_
      rw [BitVec.getLsbD_sshiftRight, BitVec.msb_eq_getLsbD_last]
      cases h31 : v.getLsbD 31
      · simp; omega
      · have hones : (0xFFFFFFFF#32).getLsbD i = true := by
          have : ∀ i < 32, (0xFFFFFFFF#32).getLsbD i = true := by decide
          exact this i hi
        rw [if_pos rfl, hones]
        simp; omega
    rw [asrC, if_neg hn, if_neg hn, hfill]

/-- Settles O3: the equations of the five shifts. -/
theorem shifterValues : Obligations.ShifterValues := by
  intro v n c hn
  rw [shiftC_lsl v c hn, shiftC_lsr v c hn, shiftC_asr v c hn, shiftC_ror v c hn, lsrC_eq v n, asrC_eq]
  refine ⟨⟨lslC_toNat v n, fun h => by rw [lslC, if_pos h], fun h => by rw [lslC, if_neg (by omega)]⟩, ⟨?_, rfl⟩,
    ⟨?_, fun h => ?_, fun h => if_neg (by omega)⟩, ⟨(rorC_value v n).trans (BitVec.rotateRight_mod_eq_rotateRight).symm, rfl⟩,
      fun t ht => shiftC_zero v t c ht, ?_, rfl⟩
  · rw [BitVec.toNat_ushiftRight, Nat.shiftRight_eq_div_pow]
  · rw [BitVec.toInt_sshiftRight, Int.shiftRight_eq_div_pow]
    rfl
  · by_cases hlt : n < 32
    · exact if_pos hlt
    · obtain rfl : n = 32 := by omega
      rfl
  · show (rrxC v c).1.toNat = _
    rw [rrxC_value, BitVec.toNat_cons', Nat.shiftLeft_eq, BitVec.extractLsb'_toNat, Nat.shiftRight_eq_div_pow]
    omega

end Sys2Proof.Machine
end

section
/-! The ALU on the adder: `~y` is `-y - 1`, so a subtraction is an addition whose carry is "no borrow". -/

namespace Sys2Proof.Machine

theorem addWithCarry_value (x y : Word) (cin : Bool) : (addWithCarry x y cin).value = x + y + (BitVec.ofBool cin).setWidth 32 := by
  apply BitVec.eq_of_toNat_eq
  cases cin <;> simp [addWithCarry, BitVec.toNat_add]

theorem toNat_not_word (y : Word) : (~~~y).toNat = 2 ^ 32 - 1 - y.toNat := BitVec.toNat_not

theorem toInt_not_word (y : Word) : (~~~y).toInt = -y.toInt - 1 := by
  have h := BitVec.toInt_not (x := y)
  have hlt := y.toInt_lt
  have hle := y.le_toInt
  have hn := BitVec.toInt_eq_toNat_cond y
  have hn' := BitVec.toInt_eq_toNat_cond (~~~y)
  rw [toNat_not_word] at hn'
  have := y.isLt
  split at hn <;> split at hn' <;> omega

theorem addWithCarry_comm (x y : Word) (cin : Bool) : addWithCarry x y cin = addWithCarry y x cin := by
  simp only [addWithCarry, Nat.add_comm x.toNat, Int.add_comm x.toInt]

theorem addWithCarry_not_value (x y : Word) (cin : Bool) :
    (addWithCarry x (~~~y) cin).value = x - y - (BitVec.ofBool (!cin)).setWidth 32 := by
  rw [addWithCarry_value]
  cases cin <;> simp <;> bv_omega

/-- The carry of a subtraction is "no borrow". -/
theorem addWithCarry_not_carry_iff (x y : Word) (cin : Bool) :
    (addWithCarry x (~~~y) cin).carry = true ↔ y.toNat + (!cin).toNat ≤ x.toNat := by
  rw [addWithCarry_carry_iff, toNat_not_word]
  have := y.isLt
  cases cin <;> simp <;> omega

theorem addWithCarry_not_overflow_iff (x y : Word) :
    (addWithCarry x (~~~y) true).overflow = true ↔ x.toInt - y.toInt < -2 ^ 31 ∨ 2 ^ 31 ≤ x.toInt - y.toInt := by
  rw [addWithCarry_overflow_iff, toInt_not_word]
  simp only [Bool.toNat_true]
  omega

/-! RSB and RSC are the same subtraction with the operands exchanged. -/

theorem alu_rsb (a b : Word) (c sc : Bool) : alu .rsb a b c sc = alu .sub b a c sc := congrArg arithResult (addWithCarry_comm _ _ _)

theorem alu_rsc (a b : Word) (c sc : Bool) : alu .rsc a b c sc = alu .sbc b a c sc := congrArg arithResult (addWithCarry_comm _ _ _)

theorem alu_sub_value (a b : Word) (c sc : Bool) : (alu .sub a b c sc).value = a - b :=
  (addWithCarry_not_value a b true).trans (by simp)

theorem alu_sub_carry_iff (a b : Word) (c sc : Bool) : (alu .sub a b c sc).carry = true ↔ b.toNat ≤ a.toNat :=
  addWithCarry_not_carry_iff a b true

theorem alu_sub_overflow_iff (a b : Word) (c sc : Bool) :
    (alu .sub a b c sc).overflow = some true ↔ a.toInt - b.toInt < -2 ^ 31 ∨ 2 ^ 31 ≤ a.toInt - b.toInt :=
  Option.some_inj.trans (addWithCarry_not_overflow_iff a b)

theorem alu_sbc_value (a b : Word) (c sc : Bool) : (alu .sbc a b c sc).value = a - b - (BitVec.ofBool (!c)).setWidth 32 :=
  addWithCarry_not_value a b c

theorem alu_sbc_carry_iff (a b : Word) (c sc : Bool) : (alu .sbc a b c sc).carry = true ↔ b.toNat + (!c).toNat ≤ a.toNat :=
  addWithCarry_not_carry_iff a b c

theorem alu_sub_overflow_eq_false_iff (a b : Word) (c sc : Bool) :
    (alu .sub a b c sc).overflow = some false ↔ -2 ^ 31 ≤ a.toInt - b.toInt ∧ a.toInt - b.toInt < 2 ^ 31 := by
  have hno : (alu .sub a b c sc).overflow = some false ↔ ¬ (addWithCarry a (~~~b) true).overflow = true := by
    rw [Bool.not_eq_true]
    exact Option.some_inj
  rw [hno, addWithCarry_not_overflow_iff]
  omega

/-- Settles O5: the four uses of the adder are the ALU's definition; values and carries are the lemmas above. -/
theorem subtractionOnTheAdder : Obligations.SubtractionOnTheAdder := by
  refine ⟨fun x y c sc => ⟨rfl, rfl, rfl, rfl, alu_sub_value x y c sc, ?_, alu_sub_carry_iff x y c sc, ?_, ?_⟩, by decide, by decide,
    by decide,
    by decide⟩
  · rw [alu_rsb, alu_sub_value]
  · rw [← Bool.not_eq_true, alu_sub_carry_iff, Nat.not_le]
  · rw [alu_rsb, alu_sub_carry_iff]

/-- Settles O6: the twelve operations, by the adder's value, carry and overflow. -/
theorem aluValues : Obligations.AluValues := by
  intro a b c sc
  have hadd : a.toInt + b.toInt + ((false.toNat : Nat) : Int) = a.toInt + b.toInt := Int.add_zero _
  rw [alu_rsb, alu_rsc]
  refine ⟨⟨rfl, rfl, rfl, rfl, rfl, rfl⟩, ⟨rfl, rfl⟩,
    ⟨(addWithCarry_value a b false).trans (by simp), addWithCarry_value a b c, alu_sbc_value a b c sc, alu_sbc_value b a c sc⟩,
    ⟨alu_sbc_carry_iff a b c sc, alu_sbc_carry_iff b a c sc, addWithCarry_carry_iff a b false, addWithCarry_carry_iff a b c⟩,
    ⟨hadd ▸ Option.some_inj.trans (addWithCarry_overflow_iff a b false), Option.some_inj.trans (addWithCarry_overflow_iff a b c),
      alu_sub_overflow_iff a b c sc, alu_sub_overflow_iff b a c sc, alu_sub_overflow_eq_false_iff a b c sc⟩⟩

/-- Settles O7: the flags are four bits. -/
theorem conditionTable : Obligations.ConditionTable := by
  unfold Obligations.ConditionTable
  decide

end Sys2Proof.Machine
end

/-! ## Proofs: block transfers, register banks, CpsrUpdate and guest memory (R21 to R23, R33, R61 to R63, R70, R71, R291, R292) -/

section
/-! The length and the addresses of a block, its ranges and its registers. -/

namespace Sys2Proof.Machine

theorem bitcount_le {n : Nat} (w : BitVec n) : bitcount w ≤ n := by
  rw [bitcount, bitcountBelow_eq_length_filter]
  exact (List.length_filter_le _ _).trans List.length_range.le

theorem bitcount_pos {n : Nat} {w : BitVec n} (h : w ≠ 0#n) : 0 < bitcount w := by
  obtain ⟨k, hk, hbit⟩ : ∃ k, k < n ∧ w.getLsbD k = true := by
    by_contra hnone
    refine h (BitVec.eq_of_getLsbD_eq fun k hk => ?_)
    simpa using fun hbit => hnone ⟨k, hk, hbit⟩
  rw [bitcount, bitcountBelow_eq_length_filter, List.length_pos_iff_exists_mem]
  exact ⟨k, List.mem_filter.2 ⟨List.mem_range.2 hk, hbit⟩⟩

theorem blockWriteBack_eq (a : BlockMode) (base length : Word) : blockWriteBack a.u base length = a.writeBack base length := by
  cases a <;> rfl

/-- Settles O8: the length is that of a non-empty list, the addresses are the table row by row. -/
theorem blockAddresses : Obligations.BlockAddresses := by
  intro base l hl
  have hpos := bitcount_pos hl
  have hle := bitcount_le l
  refine ⟨by rw [blockLength]; omega, by rw [blockLength]; omega, fun a => ⟨blockStart_eq_first a base _, blockWriteBack_eq a base _, ?_⟩⟩
  rw [blockStart_eq_first]
  generalize blockLengthWord l = length
  cases a <;> simp only [BlockMode.first] <;> bv_omega

theorem mem_listedRegisters (l : BitVec 16) (n : RegIdx) : n ∈ listedRegisters l ↔ n ≠ 15#4 ∧ l.getLsbD n.toNat = true := by
  have hlow : ∀ n : RegIdx, n ∈ lowRegisters ↔ n ≠ 15#4 := by decide
  rw [listedRegisters, List.mem_filter, hlow, inList]

theorem listedRegisters_pairwise (l : BitVec 16) : (listedRegisters l).Pairwise fun i j => i.toNat < j.toNat :=
  List.Pairwise.filter _ (by decide)

/-- A page size that fits the address space divides it. -/
theorem page_dvd {page : Nat} (hpage : pageSizeOk page = true) (hle : page ≤ 2 ^ 32 + 64) : page ∣ 2 ^ 32 := by
  obtain ⟨_, hpow⟩ : 64 ≤ page ∧ page = 2 ^ page.log2 := by simpa [pageSizeOk] using hpage
  have hlog : page.log2 < 33 := by
    rw [hpow] at hle
    exact (Nat.pow_lt_pow_iff_right (a := 2) (by decide)).1 (hle.trans_lt (by decide))
  rw [hpow]
  exact Nat.pow_dvd_pow 2 (by omega)

theorem rangeEvents_one {page : Nat} {start : Word} {len : Nat} (h : ¬(len > 4 ∧ page - start.toNat % page < len)) :
    rangeEvents page start len = [.range start len] := if_neg h

theorem rangeEvents_two {page : Nat} {start : Word} {len : Nat} (h : len > 4 ∧ page - start.toNat % page < len) :
    rangeEvents page start len =
      [.range start (page - start.toNat % page),
        .range (start + BitVec.ofNat 32 (page - start.toNat % page)) (len - (page - start.toNat % page))] := if_pos h

/-- The address after the last byte of the first page is on the boundary, also at the top of the space. -/
theorem page_boundary {page : Nat} {start : Word} (hpos : 0 < page) (hdvd : page ∣ 2 ^ 32) :
    (start + BitVec.ofNat 32 (page - start.toNat % page)).toNat % page = 0 := by
  have hmod := Nat.mod_lt start.toNat hpos
  have hdiv := Nat.div_add_mod start.toNat page
  rw [BitVec.toNat_add, BitVec.toNat_ofNat, Nat.add_mod_mod, Nat.mod_mod_of_dvd _ hdvd]
  refine Nat.mod_eq_zero_of_dvd ⟨start.toNat / page + 1, ?_⟩
  rw [Nat.mul_add, Nat.mul_one]
  omega

/-- Settles O9: the bytes left in the page of the first make up the first range. -/
theorem rangeEventsSplit : Obligations.RangeEventsSplit := by
  refine ⟨fun page start len hpage hlen hmax => ?_, fun page start => rangeEvents_one (by omega),
    fun l => ⟨listedRegisters_pairwise l, mem_listedRegisters l⟩⟩
  have h64 : 64 ≤ page := by
    simp only [pageSizeOk, Bool.and_eq_true, decide_eq_true_eq] at hpage
    exact hpage.1
  have hmod := Nat.mod_lt start.toNat (by omega : 0 < page)
  refine ⟨fun hin => rangeEvents_one (by omega), fun hcross => ?_⟩
  have hle := Nat.mod_le start.toNat page
  have hdvd := page_dvd hpage (by have := start.isLt; omega)
  exact ⟨_, by omega, by omega, rangeEvents_two (by omega), by omega, page_boundary (by omega) hdvd, by omega⟩

end Sys2Proof.Machine
end

section
/-! Which register an index names in which mode, and what a read gives after a write (R21 to R23). -/

namespace Sys2Proof.Machine

/-- The index that names a physical register, in the modes whose bank holds it (R21). -/
def PReg.index : PReg → RegIdx
  | .r0usr => 0#4 | .r1usr => 1#4 | .r2usr => 2#4 | .r3usr => 3#4 | .r4usr => 4#4 | .r5usr => 5#4 | .r6usr => 6#4 | .r7usr => 7#4
  | .r8usr | .r8fiq => 8#4
  | .r9usr | .r9fiq => 9#4
  | .r10usr | .r10fiq => 10#4
  | .r11usr | .r11fiq => 11#4
  | .r12usr | .r12fiq => 12#4
  | .r13usr | .r13fiq | .r13irq | .r13svc | .r13abt | .r13und => 13#4
  | .r14usr | .r14fiq | .r14irq | .r14svc | .r14abt | .r14und => 14#4

theorem index_of_bank (m : Mode) (n : RegIdx) : ∀ p ∈ bank m n, p.index = n := by
  cases m <;> revert n <;> decide

/-- Two indices that name the same physical register are equal. -/
theorem bank_eq_some {m m' : Mode} {n n' : RegIdx} (hn : n ≠ 15#4) (h : bank m n = bank m' n') : n = n' := by
  obtain ⟨p, hp⟩ := Option.ne_none_iff_exists'.1 (mt (bank_eq_none m n).1 hn)
  rw [← index_of_bank m n p hp, index_of_bank m' n' p (h ▸ hp)]

/-- The columns of the table, row by row (R21). -/
theorem bank_eq_bank_iff (m m' : Mode) (n : RegIdx) (hn : n ≠ 15#4) : bank m n = bank m' n ↔
    n.toNat < 8 ∨ (n.toNat < 13 ∧ (m = .fiq ↔ m' = .fiq)) ∨ m = m' ∨ ((m = .usr ∨ m = .sys) ∧ (m' = .usr ∨ m' = .sys)) := by
  revert n
  cases m <;> cases m' <;> decide

theorem State.xm_of_bank {s : State} {m : Mode} {n : RegIdx} {p : PReg} (h : bank m n = some p) : s.xm m n = s.reg p := by
  rw [State.xm, h]

theorem State.xm_pc (s : State) (m : Mode) : s.xm m 15#4 = s.pc + 8#32 := by
  rw [State.xm, (bank_eq_none m 15#4).2 rfl]

/-- A write through one mode's column is read through another's exactly when both name the same register. -/
theorem State.xm_setXm (s : State) (m m' : Mode) {n n' : RegIdx} (v : Word) (hn : n ≠ 15#4) (hn' : n' ≠ 15#4) :
    (s.setXm m n v).xm m' n' = if bank m n = bank m' n' then v else s.xm m' n' := by
  obtain ⟨p, hp⟩ := Option.ne_none_iff_exists'.1 (mt (bank_eq_none m n).1 hn)
  obtain ⟨q, hq⟩ := Option.ne_none_iff_exists'.1 (mt (bank_eq_none m' n').1 hn')
  rw [State.xm_of_bank hq, State.xm_of_bank hq]
  split
  · next h => exact s.reg_setXm_self m n v (h.trans hq)
  · next h => exact s.reg_setXm_ne m n v (fun e => h (e.trans hq.symm))

/-- Settles O10: the table of R21 column by column, and the read after a write. -/
theorem bankedAccess : Obligations.BankedAccess := by
  refine ⟨fun m m' n n' hn hn' => ⟨fun h => ?_, fun h => ?_⟩, fun s m m' n n' v => s.xm_setXm m m' v, State.xm_pc⟩
  · obtain rfl := bank_eq_some hn h
    exact ⟨rfl, (bank_eq_bank_iff m m' n hn).1 h⟩
  · obtain ⟨rfl, h⟩ := h
    exact (bank_eq_bank_iff m m' n hn).2 h

end Sys2Proof.Machine
end

section
/-! `CpsrUpdate` (R33): the merge with the mask of the mode, or nothing. -/

namespace Sys2Proof.Machine

theorem State.cpsrUpdate_privileged {s : State} (hm : s.mode ≠ .usr) (value mask : Word) : s.cpsrUpdate value mask =
    if legalMode (mergeBits s.cpsr value mask) then some { s with cpsr := mergeBits s.cpsr value mask } else none := by
  simp only [State.cpsrUpdate, if_neg hm]

theorem State.cpsrUpdate_user {s : State} (hm : s.mode = .usr) (value mask : Word) : s.cpsrUpdate value mask =
    if legalMode s.cpsr then some { s with cpsr := mergeBits s.cpsr value (mask &&& userWriteMask) } else none := by
  have hlegal : legalMode (mergeBits s.cpsr value (mask &&& userWriteMask)) = legalMode s.cpsr := by
    rw [legalMode, legalMode, modeField_of_userWriteMask (mergeBits_userWriteMask s.cpsr value mask)]
  simp only [State.cpsrUpdate, if_pos hm, hlegal]

/-- Settles O11: outside User mode the mask as given, in User mode the mask reduced, which keeps the mode field. -/
theorem cpsrUpdateMasked : Obligations.CpsrUpdateMasked := by
  intro s value mask
  have hmerge : s.cpsr &&& ~~~mask ||| value &&& mask = mergeBits s.cpsr value mask := rfl
  refine ⟨fun t h => ⟨(cpsrUpdate_some h).2, (cpsrUpdate_some h).1, fun k hk => ?_⟩, fun h => ?_, fun hm h => ?_, fun hm h => ?_⟩
  · by_cases hm : s.mode = .usr
    · rw [State.cpsrUpdate_user hm] at h
      split at h <;> cases h
      rw [getLsbD_mergeBits _ _ _ hk, BitVec.getLsbD_and]
      simp only [hm, ne_eq, not_true, decide_false, Bool.false_or]
      rfl
    · rw [State.cpsrUpdate_privileged hm] at h
      split at h <;> cases h
      rw [getLsbD_mergeBits _ _ _ hk]
      simp only [hm, ne_eq, not_false_eq_true, decide_true, Bool.true_or, Bool.and_true]
  · rw [hmerge]
    by_cases hm : s.mode = .usr
    · rw [State.cpsrUpdate_user hm] at h
      exact .inr (by simpa using h)
    · rw [State.cpsrUpdate_privileged hm] at h
      exact .inl (by simpa using h)
  · rw [State.cpsrUpdate_privileged hm, ← hmerge, h]
    rfl
  · rw [State.cpsrUpdate_user hm, h]
    rfl

end Sys2Proof.Machine
end

section
/-! Guest memory: the bytes of a written value, and a value read from its bytes (R61 to R63, R67, R81). -/

namespace Sys2Proof.Machine

/-- The bytes at `a` are those of `v`, the lowest first. -/
def Memory.holds (m : Memory) (a v : Word) (n : Size) : Prop :=
  ∀ k, k < sizeBytes n → m.read8 (a + BitVec.ofNat 32 k) = v.extractLsb' (8 * k) 8

theorem extractLsb'_zero_eq_setWidth {w : Nat} (v : BitVec w) (n : Nat) : v.extractLsb' 0 n = v.setWidth n := by
  refine BitVec.eq_of_getLsbD_eq fun i hi => ?_
  rw [BitVec.getLsbD_extractLsb', BitVec.getLsbD_setWidth, Nat.zero_add]

theorem extractLsb'_append_byte (v : Word) : v.extractLsb' 8 8 ++ v.extractLsb' 0 8 = v.setWidth 16 := by
  refine BitVec.eq_of_getLsbD_eq fun i hi => ?_
  rw [BitVec.getLsbD_append, BitVec.getLsbD_extractLsb', BitVec.getLsbD_extractLsb', BitVec.getLsbD_setWidth]
  by_cases h : i < 8
  · simp [h, hi]
  · simp [h, hi, show i - 8 < 8 by omega, show 8 + (i - 8) = i by omega]

theorem Memory.readSize_of_holds {m : Memory} {a v : Word} {n : Size} (h : m.holds a v n) : m.readSize a n = truncateTo n v := by
  have h0 : m.read8 a = v.extractLsb' 0 8 := by simpa using h 0 (by cases n <;> decide)
  cases n with
  | byte =>
    show (m.read8 a).setWidth 32 = (v.setWidth 8).setWidth 32
    rw [h0, extractLsb'_zero_eq_setWidth]
  | half =>
    show (m.read8 (a + 1#32) ++ m.read8 a).setWidth 32 = (v.setWidth 16).setWidth 32
    rw [h0, h 1 (by decide), extractLsb'_append_byte]
  | word =>
    show m.read32 a = v
    rw [Memory.read32, h0, h 1 (by decide), h 2 (by decide), h 3 (by decide)]
    exact wordOfBytes_byteOfWord v

theorem Memory.holds_writeSize {m : Memory} (hm : m.wf = true) (a v : Word) (n : Size) : (m.writeSize a v n).holds a v n := by
  intro k hk
  have h1 := m.wf_write8 a (byteOfWord v 0) hm
  have h2 := Memory.wf_write8 _ (a + 1#32) (byteOfWord v 1) h1
  have h3 := Memory.wf_write8 _ (a + 2#32) (byteOfWord v 2) h2
  cases n with
  | byte | half | word =>
    simp only [sizeBytes] at hk
    show _ = byteOfWord v k
    interval_cases k <;>
      simp [Memory.writeSize, Memory.write16, Memory.write32, Memory.read8_write8_self, Memory.read8_write8_ne, hm, h1, h2, h3]

theorem toNat_append_eq {m n : Nat} (x : BitVec m) (y : BitVec n) : (x ++ y).toNat = x.toNat * 2 ^ n + y.toNat := by
  rw [BitVec.toNat_append, ← Nat.shiftLeft_add_eq_or_of_lt y.isLt, Nat.shiftLeft_eq]

theorem Memory.toNat_readSize (m : Memory) (a : Word) (n : Size) : (m.readSize a n).toNat =
    (List.range (sizeBytes n)).foldr (fun k acc => acc + (m.read8 (a + BitVec.ofNat 32 k)).toNat * 2 ^ (8 * k)) 0 := by
  have h0 : a + BitVec.ofNat 32 0 = a := BitVec.add_zero a
  cases n with
  | byte =>
    have hbyte : m.readSize a .byte = (m.read8 a).setWidth 32 := rfl
    rw [hbyte, BitVec.toNat_setWidth_of_le (by decide)]
    simp [sizeBytes]
  | half =>
    have hhalf : m.readSize a .half = (m.read8 (a + 1#32) ++ m.read8 a).setWidth 32 := rfl
    rw [hhalf, BitVec.toNat_setWidth_of_le (by decide), toNat_append_eq]
    simp [sizeBytes, List.range_succ]
  | word =>
    have hword : m.readSize a .word = m.read8 (a + 3#32) ++ m.read8 (a + 2#32) ++ m.read8 (a + 1#32) ++ m.read8 a := rfl
    rw [hword, toNat_append_eq, toNat_append_eq, toNat_append_eq]
    simp only [sizeBytes, List.range_succ, List.range_zero, List.nil_append, List.cons_append, List.foldr_cons, List.foldr_nil, h0]
    ring

/-- The reference memory answers a read with the bytes at the address. -/
theorem portData_reference (s : State) (a : PortAccess) {faults : List FaultRule} {d : Bool} (h : s.port = .reference faults d) :
    s.portData a = s.mem.readSize a.addr a.size := by
  rw [State.portData, h]

/-- Settles O12: the bytes of a written value, and the bytes the reference memory answers with. -/
theorem memoryReadsAndWrites : Obligations.MemoryReadsAndWrites := by
  refine ⟨fun m a v n hm => ⟨m.wf_writeSize a v n hm, Memory.readSize_of_holds (Memory.holds_writeSize hm a v n),
    Memory.holds_writeSize hm a v n, fun b hb => m.read8_writeSize_ne v n hb⟩, fun s addr n user hport => ?_⟩
  obtain ⟨d, hd⟩ := hport
  refine ⟨portCode_reference s _ hd, ?_⟩
  rw [portData_reference s _ hd]
  exact s.mem.toNat_readSize addr n

end Sys2Proof.Machine
end

section
/-! Reset and the start of a program (R48, R335, R461, R466). -/

namespace Sys2Proof.Machine

theorem State.reset_reg (p : PReg) : State.reset.reg p = 0#32 := by cases p <;> rfl

theorem State.reset_cop (n : BitVec 4) : State.reset.cop n = none := Vector.getElem_replicate ..

theorem refCopWord_reset (k : Nat) : refCopWord RefCop.reset k = 0#32 := by
  rw [refCopWord, RefCop.reset, Vector.toArray_replicate]
  by_cases h : k < 32
  · simp [h]
  · simp [h]

theorem cop_harnessStart (numbers : List (BitVec 4)) (image : List (Word × Word)) (n : BitVec 4) :
    (harnessStart numbers image).cop n = if n ∈ numbers then some ⟨Hooks.all, .reference RefCop.reset⟩ else none := by
  simp [State.cop, referenceRegistry, CopObject.referenceReset]

theorem Memory.placeImage_append (m : Memory) (image : List (Word × Word)) (a v : Word) :
    m.placeImage (image ++ [(a, v)]) = (m.placeImage image).write32 a v := List.foldl_append ..

/-- Settles O13: the reset values, and the image placed word by word. -/
theorem resetState : Obligations.ResetState := by
  refine ⟨State.reset_reg, rfl, rfl, fun m => by cases m <;> rfl, rfl, fun _ => rfl, State.reset_cop, fun _ => rfl, fun _ => rfl,
    refCopWord_reset, fun numbers image => ⟨rfl, cop_harnessStart numbers image⟩, fun _ _ => rfl, fun numbers image a v => ?_⟩
  rw [harnessStart_mem, harnessStart_mem, Memory.placeImage_append]
  exact ⟨Memory.read32_write32_self _ a v (Memory.wf_placeImage image _ rfl), fun b hb => Memory.read8_write32_ne _ v hb⟩

/-- Settles O14: the reset state, field by field. -/
theorem resetInv : Obligations.ResetInv where
  mode := by decide
  mem := rfl
  cops := fun n => by rw [State.reset_cop]; rfl
  page := by decide
  halted := ⟨fun h => absurd h Bool.false_ne_true, fun ⟨_, h⟩ => absurd h (by simp [State.reset])⟩

end Sys2Proof.Machine
end

/-! ## Proofs: the decoder and the encoder (R91 to R107, R350) -/

section
/-! The columns of a word. A word is its columns and the columns are the word's, so decoding a word is decoding its columns; an operand that
spans several columns is put together from what the encoder cuts it into. -/

-- One proof after another: proofs that wait for the decoder's equations at the same time hold a thread's stack each.
set_option Elab.async false

namespace Sys2Proof

theorem fieldsOf_toWord (f : Fields) : fieldsOf f.toWord = f := by
  obtain ⟨cond, group, b24, b23, b22, b21, b20, f19, f15, f11, b7, f6, b4, f3⟩ := f
  simp only [fieldsOf, Fields.toWord, Fields.mk.injEq]
  refine ⟨?_, ?_, ?_, ?_, ?_, ?_, ?_, ?_, ?_, ?_, ?_, ?_, ?_, ?_⟩
  all_goals try refine BitVec.eq_of_getLsbD_eq fun i hi => ?_
  all_goals simp only [BitVec.getLsbD_append, BitVec.getLsbD_extractLsb', BitVec.getLsbD_ofBool]
  all_goals grind

theorem ofBool_getLsbD {w : Nat} (x : BitVec w) (k : Nat) : BitVec.ofBool (x.getLsbD k) = x.extractLsb' k 1 := by
  refine BitVec.eq_of_getLsbD_eq fun i hi => ?_
  obtain rfl : i = 0 := by omega
  simp

theorem toWord_fieldsOf (w : Word) : (fieldsOf w).toWord = w := by
  simp only [fieldsOf, Fields.toWord, ofBool_getLsbD]
  repeat rw [BitVec.extractLsb'_append_extractLsb'_eq_extractLsb' (by rfl)]
  exact BitVec.extractLsb'_eq_self

/-! An operand cut into pieces, put together again. -/

theorem join_imm5 (v : BitVec 5) : v.extractLsb' 1 4 ++ BitVec.ofBool v[0] = v := by
  revert v
  decide

theorem join_imm8 (v : BitVec 8) : v.extractLsb' 4 4 ++ v.extractLsb' 0 4 = v := by
  rw [BitVec.extractLsb'_append_extractLsb'_eq_extractLsb' (by rfl)]
  exact BitVec.extractLsb'_eq_self

theorem join_imm16 (v : BitVec 16) : v.extractLsb' 12 4 ++ v.extractLsb' 0 12 = v := by
  rw [BitVec.extractLsb'_append_extractLsb'_eq_extractLsb' (by rfl)]
  exact BitVec.extractLsb'_eq_self

theorem ofBool_getElem {w : Nat} (x : BitVec w) (k : Nat) (h : k < w) : BitVec.ofBool x[k] = x.extractLsb' k 1 := by
  rw [← BitVec.getLsbD_eq_getElem, ofBool_getLsbD]

theorem join_imm24 (v : BitVec 24) : BitVec.ofBool v[23] ++ BitVec.ofBool v[22] ++ BitVec.ofBool v[21] ++ BitVec.ofBool v[20] ++
    v.extractLsb' 16 4 ++ v.extractLsb' 12 4 ++ v.extractLsb' 0 12 = v := by
  simp only [ofBool_getElem]
  repeat rw [BitVec.extractLsb'_append_extractLsb'_eq_extractLsb' (by rfl)]
  exact BitVec.extractLsb'_eq_self

theorem join_imm12 (v : BitVec 12) :
    v.extractLsb' 8 4 ++ BitVec.ofBool v[7] ++ v.extractLsb' 5 2 ++ BitVec.ofBool v[4] ++ v.extractLsb' 0 4 = v := by
  simp only [ofBool_getElem]
  repeat rw [BitVec.extractLsb'_append_extractLsb'_eq_extractLsb' (by rfl)]
  exact BitVec.extractLsb'_eq_self

/-! The columns below bit 12. -/

section
variable (f : Fields) (v : BitVec 12)

@[simp] theorem withImm12_cond : (f.withImm12 v).cond = f.cond := rfl
@[simp] theorem withImm12_group : (f.withImm12 v).group = f.group := rfl
@[simp] theorem withImm12_b24 : (f.withImm12 v).b24 = f.b24 := rfl
@[simp] theorem withImm12_b23 : (f.withImm12 v).b23 = f.b23 := rfl
@[simp] theorem withImm12_b22 : (f.withImm12 v).b22 = f.b22 := rfl
@[simp] theorem withImm12_b21 : (f.withImm12 v).b21 = f.b21 := rfl
@[simp] theorem withImm12_b20 : (f.withImm12 v).b20 = f.b20 := rfl
@[simp] theorem withImm12_f19 : (f.withImm12 v).f19 = f.f19 := rfl
@[simp] theorem withImm12_f15 : (f.withImm12 v).f15 = f.f15 := rfl
@[simp] theorem withImm12_f11 : (f.withImm12 v).f11 = v.extractLsb' 8 4 := rfl
@[simp] theorem withImm12_b7 : (f.withImm12 v).b7 = v.getLsbD 7 := rfl
@[simp] theorem withImm12_f6 : (f.withImm12 v).f6 = v.extractLsb' 5 2 := rfl
@[simp] theorem withImm12_b4 : (f.withImm12 v).b4 = v.getLsbD 4 := rfl
@[simp] theorem withImm12_f3 : (f.withImm12 v).f3 = v.extractLsb' 0 4 := rfl

@[simp] theorem withImm12_imm12 : (f.withImm12 v).imm12 = v := by
  simp [Fields.imm12, join_imm12]

@[simp] theorem withImm12_imm16 : (f.withImm12 v).imm16 = f.f19 ++ v := by rw [Fields.imm16, withImm12_imm12, withImm12_f19]

@[simp] theorem withImm12_regList : (f.withImm12 v).regList = f.f15 ++ v := by rw [Fields.regList, withImm12_imm12, withImm12_f15]

@[simp] theorem withImm12_imm24 : (f.withImm12 v).imm24 =
    BitVec.ofBool f.b23 ++ BitVec.ofBool f.b22 ++ BitVec.ofBool f.b21 ++ BitVec.ofBool f.b20 ++ f.f19 ++ f.f15 ++ v := by
  simp [Fields.imm24]

end

/-! The encoder's columns decode to the instruction, family by family. -/

theorem decode_dataProcessing (op : Machine.AluOp) (cond : Cond) (sf : Bool) (rn rd : RegIdx) (o : Machine.Operand2) (forms : HypForms) :
    decodeNative forms (encodeFields (Machine.dpInstr op cond sf rn rd o)) = .ok (Machine.dpInstr op cond sf rn rd o) := by
  cases o with
  | imm v => cases op <;> simp [Machine.dpInstr, encodeFields, encDpi, highFields, decodeNative, decodeDataProcImmediate, decodeDpi]
  | reg n ty rm =>
    cases op <;> simp [Machine.dpInstr, encodeFields, encDpr, decodeNative, decodeDataProcRegister, decodeDpr, Fields.imm5, join_imm5]

section
variable (cond : Cond) (idx : Indexing) (u : Bool) (rn rt : RegIdx) (forms : HypForms)

theorem decode_load (f : Machine.LoadForm) (hf : (f.instr cond idx u rn rt).wellFormed = true) :
    decodeNative forms (encodeFields (f.instr cond idx u rn rt)) = .ok (f.instr cond idx u rn rt) := by
  cases f with
  | ldr o | ldrb o =>
    cases o with
    | imm v =>
      have hrn : (rn == 15#4) = false := by simpa [Machine.LoadForm.instr, Instr.wellFormed, notLiteral, bne] using hf
      cases idx <;> simp [Machine.LoadForm.instr, encodeFields, encLsi, highFields, decodeNative, decodeLoadStoreImmediate, Fields.isT,
        Fields.indexing, Indexing.p, Indexing.w, hrn]
    | reg n ty rm =>
      cases idx <;> simp [Machine.LoadForm.instr, encodeFields, encLsr, decodeNative, decodeLoadStoreRegister, Fields.isT, Fields.indexing,
        Indexing.p, Indexing.w, Fields.imm5, join_imm5]
  | ldrh o | ldrsb o | ldrsh o =>
    cases o with
    | imm v =>
      have hrn : (rn == 15#4) = false := by simpa [Machine.LoadForm.instr, Instr.wellFormed, notLiteral, bne] using hf
      cases idx <;> simp [Machine.LoadForm.instr, encodeFields, encXlsi, encExtra, decodeNative, decodeDataProcRegister,
        decodeExtraImmediate, Fields.isT, Fields.indexing, Indexing.p, Indexing.w, Fields.splitImm8, join_imm8, hrn]
    | reg rm =>
      cases idx <;> simp [Machine.LoadForm.instr, encodeFields, encXlsr, encExtra, decodeNative, decodeDataProcRegister,
        decodeExtraRegister,
        Fields.isT, Fields.indexing, Indexing.p, Indexing.w]

theorem decode_literal (f : Machine.LiteralLoad) :
    decodeNative forms (encodeFields (f.instr cond idx u rt)) = .ok (f.instr cond idx u rt) := by
  cases f with
  | ldr v | ldrb v =>
    cases idx <;> simp [Machine.LiteralLoad.instr, encodeFields, encLsi, highFields, decodeNative, decodeLoadStoreImmediate, Fields.isT,
      Fields.indexing, Indexing.p, Indexing.w]
  | ldrh v | ldrsb v | ldrsh v =>
    cases idx <;> simp [Machine.LiteralLoad.instr, encodeFields, encXlsi, encExtra, decodeNative, decodeDataProcRegister,
      decodeExtraImmediate, Fields.isT, Fields.indexing, Indexing.p, Indexing.w, Fields.splitImm8, join_imm8]

theorem decode_ldrd (o : Machine.ExtraOffset) (hf : (Machine.ldrdInstr cond idx u rn rt o).wellFormed = true) :
    decodeNative forms (encodeFields (Machine.ldrdInstr cond idx u rn rt o)) = .ok (Machine.ldrdInstr cond idx u rn rt o) := by
  cases o with
  | imm v =>
    have hrn : (rn == 15#4) = false := by simpa [Machine.ldrdInstr, Instr.wellFormed, notLiteral, bne] using hf
    cases idx <;> simp [Machine.ldrdInstr, encodeFields, encXlsi, encExtra, decodeNative, decodeDataProcRegister, decodeExtraImmediate,
      Fields.isT, Fields.indexing, Indexing.p, Indexing.w, Fields.splitImm8, join_imm8, hrn]
  | reg rm =>
    cases idx <;> simp [Machine.ldrdInstr, encodeFields, encXlsr, encExtra, decodeNative, decodeDataProcRegister, decodeExtraRegister,
      Fields.isT, Fields.indexing, Indexing.p, Indexing.w]

theorem decode_ldrdLiteral (v : BitVec 8) :
    decodeNative forms (encodeFields (.ldrdLiteral cond idx u rt v)) = .ok (.ldrdLiteral cond idx u rt v) := by
  cases idx <;> simp [encodeFields, encXlsi, encExtra, decodeNative, decodeDataProcRegister, decodeExtraImmediate, Fields.isT,
    Fields.indexing, Indexing.p, Indexing.w, Fields.splitImm8, join_imm8]

theorem decode_strd (o : Machine.ExtraOffset) :
    decodeNative forms (encodeFields (Machine.strdInstr cond idx u rn rt o)) = .ok (Machine.strdInstr cond idx u rn rt o) := by
  cases o with
  | imm v =>
    cases idx <;> simp [Machine.strdInstr, encodeFields, encXlsi, encExtra, decodeNative, decodeDataProcRegister, decodeExtraImmediate,
      Fields.isT, Fields.indexing, Indexing.p, Indexing.w, Fields.splitImm8, join_imm8]
  | reg rm =>
    cases idx <;> simp [Machine.strdInstr, encodeFields, encXlsr, encExtra, decodeNative, decodeDataProcRegister, decodeExtraRegister,
      Fields.isT, Fields.indexing, Indexing.p, Indexing.w]

theorem decode_doublewordP0W1 (store i : Bool) (v : BitVec 8) :
    decodeNative forms (encodeFields (.doublewordP0W1 cond store u i rn rt v)) = .ok (.doublewordP0W1 cond store u i rn rt v) := by
  cases store <;> simp [encodeFields, encExtra, decodeNative, decodeDataProcRegister, decodeExtraT, Fields.isT, Fields.splitImm8, join_imm8]

theorem decode_ldrex : decodeNative forms (encodeFields (.ldrex cond rn rt)) = .ok (.ldrex cond rn rt) := by
  simp [encodeFields, decodeNative, decodeDataProcRegister, decodeSync]

theorem decode_strex (rd : RegIdx) : decodeNative forms (encodeFields (.strex cond rn rd rt)) = .ok (.strex cond rn rd rt) := by
  simp [encodeFields, decodeNative, decodeDataProcRegister, decodeSync]

theorem decode_movw (v : BitVec 16) : decodeNative forms (encodeFields (.movw cond rt v)) = .ok (.movw cond rt v) := by
  simp [encodeFields, encDpi, highFields, decodeNative, decodeDataProcImmediate, join_imm16]

theorem decode_loadT (f : Machine.LoadForm) :
    decodeNative forms (encodeFields (f.instrT cond u rn rt)) = .ok (f.instrT cond u rn rt) := by
  cases f with
  | ldr o | ldrb o =>
    cases o <;> simp [Machine.LoadForm.instrT, encodeFields, encLsi, encLsr, highFields, decodeNative, decodeLoadStoreImmediate,
      decodeLoadStoreRegister, Fields.isT, Fields.imm5, join_imm5]
  | ldrh o | ldrsb o | ldrsh o =>
    cases o <;> simp [Machine.LoadForm.instrT, encodeFields, encXlsi, encXlsr, encExtra, decodeNative, decodeDataProcRegister, decodeExtraT,
      Fields.isT, Fields.splitImm8, join_imm8]

theorem decode_storeT (f : Machine.StoreForm) :
    decodeNative forms (encodeFields (f.instrT cond u rn rt)) = .ok (f.instrT cond u rn rt) := by
  cases f with
  | str o | strb o =>
    cases o <;> simp [Machine.StoreForm.instrT, encodeFields, encLsi, encLsr, highFields, decodeNative, decodeLoadStoreImmediate,
      decodeLoadStoreRegister, Fields.isT, Fields.imm5, join_imm5]
  | strh o =>
    cases o <;> simp [Machine.StoreForm.instrT, encodeFields, encXlsi, encXlsr, encExtra, decodeNative, decodeDataProcRegister,
      decodeExtraT,
      Fields.isT, Fields.splitImm8, join_imm8]

theorem decode_store (f : Machine.StoreForm) :
    decodeNative forms (encodeFields (f.instr cond idx u rn rt)) = .ok (f.instr cond idx u rn rt) := by
  cases f with
  | str o | strb o =>
    cases o <;> cases idx <;> simp [Machine.StoreForm.instr, encodeFields, encLsi, encLsr, highFields, decodeNative,
      decodeLoadStoreImmediate,
      decodeLoadStoreRegister, Fields.isT, Fields.indexing, Indexing.p, Indexing.w, Fields.imm5, join_imm5]
  | strh o =>
    cases o <;> cases idx <;> simp [Machine.StoreForm.instr, encodeFields, encXlsi, encXlsr, encExtra, decodeNative, decodeDataProcRegister,
      decodeExtraImmediate, decodeExtraRegister, Fields.isT, Fields.indexing, Indexing.p, Indexing.w, Fields.splitImm8, join_imm8]

end

section
variable (cond : Cond) (forms : HypForms)

theorem join_mediaHigh (v : BitVec 20) : BitVec.ofBool v[19] ++ BitVec.ofBool v[18] ++ BitVec.ofBool v[17] ++ BitVec.ofBool v[16] ++
    BitVec.ofBool v[15] ++ v.extractLsb' 11 4 ++ v.extractLsb' 7 4 ++ v.extractLsb' 3 4 ++ BitVec.ofBool v[2] ++ v.extractLsb' 0 2 = v := by
  simp only [ofBool_getElem]
  repeat rw [BitVec.extractLsb'_append_extractLsb'_eq_extractLsb' (by rfl)]
  exact BitVec.extractLsb'_eq_self

theorem decode_mediaSpace (hi : BitVec 20) (lo : BitVec 4) :
    decodeNative forms (encodeFields (.mediaSpace cond hi lo)) = .ok (.mediaSpace cond hi lo) := by
  simp [encodeFields, decodeNative, decodeLoadStoreRegister, join_mediaHigh]

theorem decode_ldm (a : Machine.BlockMode) (w : Bool) (rn : RegIdx) (l : BitVec 16) :
    decodeNative forms (encodeFields (a.ldm cond w rn l)) = .ok (a.ldm cond w rn l) := by
  cases a <;> simp [Machine.BlockMode.ldm, encodeFields, encBlk, highFields, decodeNative, decodeBlock, join_imm16]

theorem decode_stm (a : Machine.BlockMode) (w : Bool) (rn : RegIdx) (l : BitVec 16) :
    decodeNative forms (encodeFields (a.stm cond w rn l)) = .ok (a.stm cond w rn l) := by
  cases a <;> simp [Machine.BlockMode.stm, encodeFields, encBlk, highFields, decodeNative, decodeBlock, join_imm16]

theorem decode_blockNativeS (p u w ld : Bool) (rn : RegIdx) (l : BitVec 16) :
    decodeNative forms (encodeFields (.blockNativeS cond p u w ld rn l)) = .ok (.blockNativeS cond p u w ld rn l) := by
  simp [encodeFields, encBlk, highFields, decodeNative, decodeBlock, join_imm16]

theorem decode_b (v : BitVec 24) : decodeNative forms (encodeFields (.b cond v)) = .ok (.b cond v) := by
  simp [encodeFields, encBr, highFields, decodeNative, decodeBranch, join_imm24]

theorem decode_bl (v : BitVec 24) : decodeNative forms (encodeFields (.bl cond v)) = .ok (.bl cond v) := by
  simp [encodeFields, encBr, highFields, decodeNative, decodeBranch, join_imm24]

end

/-! Coprocessors: bits 11:8 are the number, which is not that of the SIMD/VFP space. -/

theorem ne_vfp {n : BitVec 4} (h : coprocOutsideVfp n = true) : n.extractLsb' 1 3 ≠ 5#3 := by
  revert n
  decide

theorem low12_high (n : BitVec 4) (v : BitVec 8) : (n ++ v).extractLsb' 8 4 = n := BitVec.extractLsb'_append_eq_left

theorem low12_imm8 (n : BitVec 4) (v : BitVec 8) : (n ++ v).extractLsb' 0 8 = v := BitVec.extractLsb'_append_eq_right

theorem low12_crm (n o1 cm : BitVec 4) : (n ++ o1 ++ cm).extractLsb' 0 4 = cm := BitVec.extractLsb'_append_eq_right

theorem low12_opc1 (n o1 cm : BitVec 4) : (n ++ o1 ++ cm).extractLsb' 4 4 = o1 := by
  rw [BitVec.extractLsb'_append_eq_of_le (by decide)]
  exact BitVec.extractLsb'_append_eq_right

theorem low12_coproc (n o1 cm : BitVec 4) : (n ++ o1 ++ cm).extractLsb' 8 4 = n := by
  rw [BitVec.extractLsb'_append_eq_of_le (by decide)]
  exact BitVec.extractLsb'_append_eq_left

theorem join_bits7to4 (v : BitVec 12) : BitVec.ofBool v[7] ++ v.extractLsb' 5 2 ++ BitVec.ofBool v[4] = v.extractLsb' 4 4 := by
  simp only [ofBool_getElem]
  repeat rw [BitVec.extractLsb'_append_extractLsb'_eq_extractLsb' (by rfl)]

@[simp] theorem withImm12_imm8 (f : Fields) (v : BitVec 12) : (f.withImm12 v).imm8 = v.extractLsb' 0 8 := by
  simp only [Fields.imm8, withImm12_b7, withImm12_f6, withImm12_b4, withImm12_f3, ofBool_getLsbD]
  repeat rw [BitVec.extractLsb'_append_extractLsb'_eq_extractLsb' (by rfl)]

theorem join_opc1 (v : BitVec 4) : BitVec.ofBool v[3] ++ BitVec.ofBool v[2] ++ BitVec.ofBool v[1] ++ BitVec.ofBool v[0] = v := by
  revert v
  decide

theorem join_opc1' (v : BitVec 3) : BitVec.ofBool v[2] ++ BitVec.ofBool v[1] ++ BitVec.ofBool v[0] = v := by
  revert v
  decide

theorem join_opc2 (v : BitVec 3) : BitVec.ofBool v[2] ++ v.extractLsb' 0 2 = v := by
  revert v
  decide

section
variable (cond : Cond) (d p u w : Bool) (rn crd n : BitVec 4) (v : BitVec 8) (forms : HypForms)

theorem not_cell {p u w : Bool} (h : transferMode p u w = true) : p = false → u = false → w = true := by
  revert p u w
  decide

theorem decode_stc (h : (Instr.stc cond p u d w rn crd n v).wellFormed = true) :
    decodeNative forms (encodeFields (.stc cond p u d w rn crd n v)) = .ok (.stc cond p u d w rn crd n v) := by
  obtain ⟨hn, hmode⟩ := Bool.and_eq_true_iff.1 h
  simp [encodeFields, encCpls, highFields, decodeNative, decodeCoproc, Fields.isSvc, decodeCoprocTransfer, low12_high, low12_imm8,
    ne_vfp hn]
  exact fun hp hu hw => absurd (not_cell hmode hp hu) (by simp [hw])

theorem decode_ldcImmediate (h : (Instr.ldcImmediate cond p u d w rn crd n v).wellFormed = true) :
    decodeNative forms (encodeFields (.ldcImmediate cond p u d w rn crd n v)) = .ok (.ldcImmediate cond p u d w rn crd n v) := by
  simp only [Instr.wellFormed, notLiteral, Bool.and_eq_true, bne_iff_ne] at h
  obtain ⟨⟨hn, hmode⟩, hrn⟩ := h
  simp [encodeFields, encCpls, highFields, decodeNative, decodeCoproc, Fields.isSvc, decodeCoprocTransfer, low12_high, low12_imm8,
    ne_vfp hn, beq_eq_false_iff_ne.2 hrn]
  exact fun hp hu hw => absurd (not_cell hmode hp hu) (by simp [hw])

theorem decode_ldcLiteral (h : (Instr.ldcLiteral cond p u d w crd n v).wellFormed = true) :
    decodeNative forms (encodeFields (.ldcLiteral cond p u d w crd n v)) = .ok (.ldcLiteral cond p u d w crd n v) := by
  obtain ⟨hn, hmode⟩ := Bool.and_eq_true_iff.1 h
  simp [encodeFields, encCpls, highFields, decodeNative, decodeCoproc, Fields.isSvc, decodeCoprocTransfer, low12_high, low12_imm8,
    ne_vfp hn]
  exact fun hp hu hw => absurd (not_cell hmode hp hu) (by simp [hw])

theorem decode_cpSpace1100000x (ld : Bool) (h : coprocOutsideVfp n = true) :
    decodeNative forms (encodeFields (.cpSpace1100000x cond ld rn crd n v)) = .ok (.cpSpace1100000x cond ld rn crd n v) := by
  simp [encodeFields, encCpls, highFields, decodeNative, decodeCoproc, Fields.isSvc, decodeCoprocTransfer, low12_high, low12_imm8,
    ne_vfp h]

theorem decode_mcrr (rt2 rt o1 cm : BitVec 4) (h : coprocOutsideVfp n = true) :
    decodeNative forms (encodeFields (.mcrr cond rt2 rt n o1 cm)) = .ok (.mcrr cond rt2 rt n o1 cm) := by
  simp [encodeFields, encCprr, highFields, decodeNative, decodeCoproc, Fields.isSvc, decodeCoprocTransfer, low12_coproc, low12_crm,
    join_bits7to4, low12_opc1, ne_vfp h]

theorem decode_mrrc (rt2 rt o1 cm : BitVec 4) (h : coprocOutsideVfp n = true) :
    decodeNative forms (encodeFields (.mrrc cond rt2 rt n o1 cm)) = .ok (.mrrc cond rt2 rt n o1 cm) := by
  simp [encodeFields, encCprr, highFields, decodeNative, decodeCoproc, Fields.isSvc, decodeCoprocTransfer, low12_coproc, low12_crm,
    join_bits7to4, low12_opc1, ne_vfp h]

theorem decode_mcr (o1 o2 : BitVec 3) (cn rt cm : BitVec 4) (h : coprocOutsideVfp n = true) :
    decodeNative forms (encodeFields (.mcr cond o1 cn rt n o2 cm)) = .ok (.mcr cond o1 cn rt n o2 cm) := by
  simp [encodeFields, encCprt, decodeNative, decodeCoproc, Fields.isSvc, decodeCoprocRegister, join_opc1', join_opc2, ne_vfp h]

theorem decode_mrc (o1 o2 : BitVec 3) (cn rt cm : BitVec 4) (h : coprocOutsideVfp n = true) :
    decodeNative forms (encodeFields (.mrc cond o1 cn rt n o2 cm)) = .ok (.mrc cond o1 cn rt n o2 cm) := by
  simp [encodeFields, encCprt, decodeNative, decodeCoproc, Fields.isSvc, decodeCoprocRegister, join_opc1', join_opc2, ne_vfp h]

theorem decode_cdp (o2 : BitVec 3) (o1 cn cd cm : BitVec 4) (h : coprocOutsideVfp n = true) :
    decodeNative forms (encodeFields (.cdp cond o1 cn cd n o2 cm)) = .ok (.cdp cond o1 cn cd n o2 cm) := by
  simp [encodeFields, encCpdp, decodeNative, decodeCoproc, Fields.isSvc, decodeCoprocRegister, join_opc1, join_opc2, ne_vfp h]

end

/-! The SIMD/VFP space: bits 25:24 are not `11`, which is the SVC space. -/

theorem join_mid (v : BitVec 12) : BitVec.ofBool v[11] ++ BitVec.ofBool v[10] ++ BitVec.ofBool v[9] ++ BitVec.ofBool v[8] ++
    v.extractLsb' 4 4 ++ v.extractLsb' 0 4 = v := by
  simp only [ofBool_getElem]
  repeat rw [BitVec.extractLsb'_append_extractLsb'_eq_extractLsb' (by rfl)]
  exact BitVec.extractLsb'_eq_self

theorem decode_vfpSpace (cond : Cond) (op : BitVec 2) (mid : BitVec 12) (odd : Bool) (low : BitVec 8) (forms : HypForms)
    (h : (Instr.vfpSpace cond op mid odd low).wellFormed = true) :
    decodeNative forms (encodeFields (.vfpSpace cond op mid odd low)) = .ok (.vfpSpace cond op mid odd low) := by
  have hvalues : ∀ op : BitVec 2, (op != 3#2) = true → op = 0#2 ∨ op = 1#2 ∨ op = 2#2 := by decide
  obtain rfl | rfl | rfl := hvalues op h <;> cases odd <;>
    simp [encodeFields, highFields, decodeNative, decodeCoproc, Fields.isSvc, low12_high, low12_imm8, join_mid]

/-! Hypercalls, layout H0: the eight SUBID rows. -/

/-- Four bits side by side. -/
def nibble (a b c d : Bool) : BitVec 4 := BitVec.ofBool a ++ BitVec.ofBool b ++ BitVec.ofBool c ++ BitVec.ofBool d

theorem nibble_bit3 : ∀ a b c d : Bool, (nibble a b c d).getLsbD 3 = a := by decide
theorem nibble_bit2 : ∀ a b c d : Bool, (nibble a b c d).getLsbD 2 = b := by decide
theorem nibble_bit1 : ∀ a b c d : Bool, (nibble a b c d).getLsbD 1 = c := by decide
theorem nibble_bit0 : ∀ a b c d : Bool, (nibble a b c d).getLsbD 0 = d := by decide
theorem nibble_low : ∀ a b c d : Bool, (nibble a b c d).extractLsb' 0 2 = BitVec.ofBool c ++ BitVec.ofBool d := by decide

section
variable (cond : Cond) (i2 i1 i0 b17 b16 : Bool) (f15 : BitVec 4) (low : BitVec 12)

theorem decode_encSubid : decodeNative decodeHyp (encSubid cond i2 i1 i0 b17 b16 f15 low) =
    decodeHypSubid (encSubid cond i2 i1 i0 b17 b16 f15 low) := by
  simp [encSubid, encHyp, highFields, decodeNative, decodeCoproc, Fields.isSvc, decodeHyp]

theorem encSubid_cond : (encSubid cond i2 i1 i0 b17 b16 f15 low).cond = cond := rfl
theorem encSubid_b20 : (encSubid cond i2 i1 i0 b17 b16 f15 low).b20 = i2 := rfl
theorem encSubid_f15 : (encSubid cond i2 i1 i0 b17 b16 f15 low).f15 = f15 := rfl
theorem encSubid_f11 : (encSubid cond i2 i1 i0 b17 b16 f15 low).f11 = low.extractLsb' 8 4 := rfl
theorem encSubid_b7 : (encSubid cond i2 i1 i0 b17 b16 f15 low).b7 = low.getLsbD 7 := rfl
theorem encSubid_f6 : (encSubid cond i2 i1 i0 b17 b16 f15 low).f6 = low.extractLsb' 5 2 := rfl
theorem encSubid_f3 : (encSubid cond i2 i1 i0 b17 b16 f15 low).f3 = low.extractLsb' 0 4 := rfl

theorem encSubid_imm12 : (encSubid cond i2 i1 i0 b17 b16 f15 low).imm12 = low := withImm12_imm12 _ low

theorem encSubid_regList : (encSubid cond i2 i1 i0 b17 b16 f15 low).regList = f15 ++ low := withImm12_regList _ low

theorem encSubid_mode5 : (encSubid cond i2 i1 i0 b17 b16 f15 low).mode5 = low.extractLsb' 0 5 := by
  simp only [encSubid, encHyp, Fields.mode5, withImm12_b4, withImm12_f3, ofBool_getLsbD]
  exact BitVec.extractLsb'_append_extractLsb'_eq_extractLsb' (by rfl)

theorem encSubid_bit19 : (encSubid cond i2 i1 i0 b17 b16 f15 low).f19.getLsbD 3 = i1 :=
  nibble_bit3 i1 i0 b17 b16

theorem encSubid_bit18 : (encSubid cond i2 i1 i0 b17 b16 f15 low).f19.getLsbD 2 = i0 :=
  nibble_bit2 i1 i0 b17 b16

theorem encSubid_bit17 : (encSubid cond i2 i1 i0 b17 b16 f15 low).f19.getLsbD 1 = b17 :=
  nibble_bit1 i1 i0 b17 b16

theorem encSubid_bit16 : (encSubid cond i2 i1 i0 b17 b16 f15 low).f19.getLsbD 0 = b16 :=
  nibble_bit0 i1 i0 b17 b16

theorem encSubid_bits17to16 : (encSubid cond i2 i1 i0 b17 b16 f15 low).f19.extractLsb' 0 2 = BitVec.ofBool b17 ++ BitVec.ofBool b16 :=
  nibble_low i1 i0 b17 b16

end

section
variable (cond : Cond)

theorem join_imod (v : BitVec 2) : BitVec.ofBool (v.getLsbD 1) ++ BitVec.ofBool (v.getLsbD 0) = v := by
  revert v
  decide

theorem bit3_low (b : Bool) : (BitVec.ofBool b ++ 0#3).getLsbD 3 = b := by
  revert b
  decide

theorem cpsPayload (a i f : Bool) (mode : BitVec 5) (v : BitVec 12)
    (hv : v = 0#3 ++ BitVec.ofBool a ++ BitVec.ofBool i ++ BitVec.ofBool f ++ 0#1 ++ mode) :
    (v.extractLsb' 8 4).getLsbD 0 = a ∧ v.getLsbD 7 = i ∧ (v.extractLsb' 5 2).getLsbD 1 = f ∧ v.extractLsb' 0 5 = mode := by
  subst hv
  refine ⟨?_, ?_, ?_, BitVec.extractLsb'_append_eq_right⟩ <;>
    simp only [BitVec.getLsbD_extractLsb', BitVec.getLsbD_append, BitVec.getLsbD_ofBool] <;> simp

theorem decode_hypCps (imod : BitVec 2) (m a i f : Bool) (mode : BitVec 5) :
    decodeNative decodeHyp (encodeFields (.hypCps cond imod m a i f mode)) = .ok (.hypCps cond imod m a i f mode) := by
  obtain ⟨ha, hi, hf, hmode⟩ := cpsPayload a i f mode _ rfl
  simp only [encodeFields, decode_encSubid, decodeHypSubid, encSubid_b20, encSubid_bit19, encSubid_bit18, encSubid_cond, encSubid_f15,
    encSubid_bits17to16, encSubid_f11, encSubid_b7, encSubid_f6, encSubid_mode5, join_imod, bit3_low, ha, hi, hf, hmode]

theorem decode_hypMrs (r : Bool) (rd : RegIdx) :
    decodeNative decodeHyp (encodeFields (.hypMrs cond r rd)) = .ok (.hypMrs cond r rd) := by
  simp only [encodeFields, decode_encSubid, decodeHypSubid, encSubid_b20, encSubid_bit19, encSubid_bit18, encSubid_cond, encSubid_f15,
    encSubid_bit16]

theorem decode_hypMsr (src : Machine.MsrSource) (r : Bool) (mask : BitVec 4) :
    decodeNative decodeHyp (encodeFields (src.instr cond r mask)) = .ok (src.instr cond r mask) := by
  cases src with
  | imm v =>
    simp only [Machine.MsrSource.instr, encodeFields, decode_encSubid, decodeHypSubid, encSubid_b20, encSubid_bit19, encSubid_bit18,
      encSubid_cond, encSubid_f15, encSubid_bit16, encSubid_imm12]
  | reg rn =>
    have hrn : (0#8 ++ rn).extractLsb' 0 4 = rn := BitVec.extractLsb'_append_eq_right
    simp only [Machine.MsrSource.instr, encodeFields, decode_encSubid, decodeHypSubid, encSubid_b20, encSubid_bit19, encSubid_bit18,
      encSubid_cond, encSubid_f15, encSubid_bit16, encSubid_f3, hrn]

theorem decode_hypRfe (p u w : Bool) (rn : RegIdx) :
    decodeNative decodeHyp (encodeFields (.hypRfe cond p u w rn)) = .ok (.hypRfe cond p u w rn) := by
  have hrn : (0#8 ++ rn).extractLsb' 0 4 = rn := BitVec.extractLsb'_append_eq_right
  simp only [encodeFields, decode_encSubid, decodeHypSubid, encSubid_b20, encSubid_bit19, encSubid_bit18, encSubid_cond, encSubid_f15,
    encSubid_bit17, encSubid_bit16, bit3_low, encSubid_f3, hrn]

theorem decode_hypSrs (p u w : Bool) (mode : BitVec 5) :
    decodeNative decodeHyp (encodeFields (.hypSrs cond p u w mode)) = .ok (.hypSrs cond p u w mode) := by
  have hmode : (0#7 ++ mode).extractLsb' 0 5 = mode := BitVec.extractLsb'_append_eq_right
  simp only [encodeFields, decode_encSubid, decodeHypSubid, encSubid_b20, encSubid_bit19, encSubid_bit18, encSubid_cond, encSubid_f15,
    encSubid_bit17, encSubid_bit16, bit3_low, encSubid_mode5, hmode]

theorem decode_hypWfi : decodeNative decodeHyp (encodeFields (.hypWfi cond)) = .ok (.hypWfi cond) := by
  simp only [encodeFields, decode_encSubid, decodeHypSubid, encSubid_b20, encSubid_bit19, encSubid_bit18, encSubid_cond]

theorem join_low18 (v : BitVec 18) : BitVec.ofBool (v.getLsbD 17) ++ BitVec.ofBool (v.getLsbD 16) ++
    (v.extractLsb' 12 4 ++ v.extractLsb' 0 12) = v := by
  rw [ofBool_getLsbD, ofBool_getLsbD, BitVec.extractLsb'_append_extractLsb'_eq_extractLsb' (by rfl),
    BitVec.extractLsb'_append_extractLsb'_eq_extractLsb' (by rfl), BitVec.extractLsb'_append_extractLsb'_eq_extractLsb' (by rfl)]
  exact BitVec.extractLsb'_eq_self

theorem decode_hypSubid7 (low : BitVec 18) :
    decodeNative decodeHyp (encodeFields (.hypSubid7 cond low)) = .ok (.hypSubid7 cond low) := by
  simp only [encodeFields, decode_encSubid, decodeHypSubid, encSubid_b20, encSubid_bit19, encSubid_bit18, encSubid_cond,
    encSubid_bits17to16, encSubid_regList, join_low18]

/-! The block forms and the SUBS PC, LR row. -/

theorem decode_encHyp (b23 b22 b21 b20 : Bool) (f19 f15 : BitVec 4) (low : BitVec 12) :
    decodeNative decodeHyp (encHyp cond b23 b22 b21 b20 f19 f15 low) = decodeHyp (encHyp cond b23 b22 b21 b20 f19 f15 low) := by
  simp [encHyp, highFields, decodeNative, decodeCoproc, Fields.isSvc]

theorem decode_encHypBlock (b23 b22 b21 b20 : Bool) (rn : RegIdx) (l : BitVec 16) :
    decodeNative decodeHyp (encHypBlock cond b23 b22 b21 b20 rn l) = decodeHyp (encHypBlock cond b23 b22 b21 b20 rn l) :=
  decode_encHyp ..

theorem bit15_high (l : BitVec 16) : (l.extractLsb' 12 4).getLsbD 3 = l.getLsbD 15 := by
  rw [BitVec.getLsbD_extractLsb']
  rfl

theorem encHypBlock_regList (b23 b22 b21 b20 : Bool) (rn : RegIdx) (l : BitVec 16) :
    (encHypBlock cond b23 b22 b21 b20 rn l).regList = l := by
  rw [encHypBlock, encHyp, withImm12_regList]
  exact join_imm16 l

theorem decodeHyp_ldm (p u w : Bool) (rn : RegIdx) (l : BitVec 16) : decodeHyp (encHypBlock cond true p u w rn l) =
    if l.getLsbD 15 then .ok (.hypLdmExceptionReturn cond p u w rn l) else .ok (.hypLdmUserRegisters cond p u w rn l) := by
  rw [decodeHyp, encHypBlock_regList, ← bit15_high]
  rfl

theorem decode_hypLdmExceptionReturn (p u w : Bool) (rn : RegIdx) (l : BitVec 16) (h : l.getLsbD 15 = true) :
    decodeNative decodeHyp (encodeFields (.hypLdmExceptionReturn cond p u w rn l)) = .ok (.hypLdmExceptionReturn cond p u w rn l) := by
  rw [encodeFields, decode_encHypBlock, decodeHyp_ldm, h]
  rfl

theorem decode_hypLdmUserRegisters (p u w : Bool) (rn : RegIdx) (l : BitVec 16) (h : (!l.getLsbD 15) = true) :
    decodeNative decodeHyp (encodeFields (.hypLdmUserRegisters cond p u w rn l)) = .ok (.hypLdmUserRegisters cond p u w rn l) := by
  rw [encodeFields, decode_encHypBlock, decodeHyp_ldm, (Bool.not_eq_true' _).mp h]
  rfl

theorem decode_hypStmUserRegisters (p u : Bool) (rn : RegIdx) (l : BitVec 16) :
    decodeNative decodeHyp (encodeFields (.hypStmUserRegisters cond p u rn l)) = .ok (.hypStmUserRegisters cond p u rn l) := by
  rw [encodeFields, decode_encHypBlock, decodeHyp, encHypBlock_regList]
  rfl

theorem low12_imm5 (n : BitVec 5) (ty : BitVec 2) (rm : BitVec 4) :
    (n ++ ty ++ 0#1 ++ rm).extractLsb' 7 5 = n := by
  rw [BitVec.extractLsb'_append_eq_of_le (by decide), BitVec.extractLsb'_append_eq_of_le (by decide)]
  exact BitVec.extractLsb'_append_eq_left

theorem low12_type (n : BitVec 5) (ty : BitVec 2) (rm : BitVec 4) : (n ++ ty ++ 0#1 ++ rm).extractLsb' 5 2 = ty := by
  rw [BitVec.extractLsb'_append_eq_of_le (by decide), BitVec.extractLsb'_append_eq_of_le (by decide)]
  exact BitVec.extractLsb'_append_eq_right

theorem low12_bit4 (n : BitVec 5) (ty : BitVec 2) (rm : BitVec 4) : (n ++ ty ++ 0#1 ++ rm).getLsbD 4 = false := by
  simp only [BitVec.getLsbD_append]
  rfl

theorem low12_rm (n : BitVec 5) (ty : BitVec 2) (rm : BitVec 4) : (n ++ ty ++ 0#1 ++ rm).extractLsb' 0 4 = rm :=
  BitVec.extractLsb'_append_eq_right

theorem withImm12_imm5 (f : Fields) (v : BitVec 12) : (f.withImm12 v).imm5 = v.extractLsb' 7 5 := by
  rw [Fields.imm5, withImm12_f11, withImm12_b7, ofBool_getLsbD]
  exact BitVec.extractLsb'_append_extractLsb'_eq_extractLsb' (by rfl)

theorem decode_subsPc (op : Machine.AluOp) (rn : RegIdx) (o : Machine.Operand2) :
    decodeNative decodeHyp (encodeFields (Machine.subsPcInstr op cond rn o)) = .ok (Machine.subsPcInstr op cond rn o) := by
  cases o with
  | imm v =>
    cases op <;>
    · simp only [Machine.subsPcInstr, encodeFields, encSubsImmediate, decode_encHyp]
      simp [decodeHyp, decodeHypSubs, encHyp, highFields]
  | reg n ty rm =>
    cases op <;>
    · simp only [Machine.subsPcInstr, encodeFields, encSubsRegister, decode_encHyp]
      simp only [decodeHyp, decodeHypSubs, encHyp, highFields, withImm12_imm5, withImm12_f6, withImm12_f3, withImm12_b4, low12_imm5,
        low12_type, low12_bit4, low12_rm]
      simp

end

open Machine in
/-- Settles O16: the columns of the encoding are decoded, family by family. -/
theorem decodeEncode : Obligations.DecodeEncode := by
  intro i hi
  show decodeNative decodeHyp (fieldsOf (encodeFields i).toWord) = .ok i
  rw [fieldsOf_toWord]
  induction i using byFamily with
  | dataProcessing op cond sf rn rd o => exact decode_dataProcessing ..
  | movw cond rd v => exact decode_movw ..
  | load f cond idx u rn rt => exact decode_load _ _ _ _ _ _ f hi
  | loadT f cond u rn rt => exact decode_loadT ..
  | literal f cond idx u rt => exact decode_literal ..
  | store f cond idx u rn rt => exact decode_store ..
  | storeT f cond u rn rt => exact decode_storeT ..
  | ldrd cond idx u rn rt o => exact decode_ldrd _ _ _ _ _ _ o hi
  | ldrdLiteral cond idx u rt v => exact decode_ldrdLiteral ..
  | strd cond idx u rn rt o => exact decode_strd ..
  | doublewordP0W1 cond store u i rn rt v => exact decode_doublewordP0W1 ..
  | ldrex cond rn rt => exact decode_ldrex ..
  | strex cond rn rd rt => exact decode_strex ..
  | mediaSpace cond hi lo => exact decode_mediaSpace ..
  | ldm a cond w rn l => exact decode_ldm ..
  | stm a cond w rn l => exact decode_stm ..
  | blockNativeS cond p u w ld rn l => exact decode_blockNativeS ..
  | b cond v => exact decode_b ..
  | bl cond v => exact decode_bl ..
  | vfpSpace cond op mid odd low => exact decode_vfpSpace _ _ _ _ _ _ hi
  | stc cond p u d w rn crd n v => exact decode_stc _ _ _ _ _ _ _ _ _ _ hi
  | ldcImmediate cond p u d w rn crd n v => exact decode_ldcImmediate _ _ _ _ _ _ _ _ _ _ hi
  | ldcLiteral cond p u d w crd n v => exact decode_ldcLiteral _ _ _ _ _ _ _ _ _ hi
  | mcrr cond rt2 rt n o1 cm => exact decode_mcrr _ _ _ _ _ _ _ hi
  | mrrc cond rt2 rt n o1 cm => exact decode_mrrc _ _ _ _ _ _ _ hi
  | cpSpace1100000x cond ld rn crd n v => exact decode_cpSpace1100000x _ _ _ _ _ _ _ hi
  | mcr cond o1 cn rt n o2 cm => exact decode_mcr _ _ _ _ _ _ _ _ hi
  | mrc cond o1 cn rt n o2 cm => exact decode_mrc _ _ _ _ _ _ _ _ hi
  | cdp cond o1 cn cd n o2 cm => exact decode_cdp _ _ _ _ _ _ _ _ hi
  | hypCps cond imod m a i f mode => exact decode_hypCps ..
  | hypMrs cond r rd => exact decode_hypMrs ..
  | hypMsr src cond r mask => exact decode_hypMsr ..
  | hypRfe cond p u w rn => exact decode_hypRfe ..
  | hypSrs cond p u w mode => exact decode_hypSrs ..
  | hypWfi cond => exact decode_hypWfi ..
  | hypSubid7 cond low => exact decode_hypSubid7 ..
  | hypLdmExceptionReturn cond p u w rn l => exact decode_hypLdmExceptionReturn _ _ _ _ _ _ hi
  | hypLdmUserRegisters cond p u w rn l => exact decode_hypLdmUserRegisters _ _ _ _ _ _ hi
  | hypStmUserRegisters cond p u rn l => exact decode_hypStmUserRegisters ..
  | subsPc op cond rn o => exact decode_subsPc ..

end Sys2Proof
end

/-! ## Proofs: data processing and the single-register transfers (R181 to R196, R220 to R241, R260 to R271) -/

section
/-! What an invocation that ends Ok, or with a fault, leaves of the state in which its work ended; and the registers it may have changed. -/

namespace Sys2Proof.Machine

/-- The state `t` after `return Ok` with the PC at `target` (R28, R421). -/
def State.ended (t : State) (target : Word) : State := { t with pc := target, result := some .ok }

theorem advance_eq (t : State) : advance t = .next (t.ended (t.pc + 4#32)) := rfl

@[simp] theorem State.ended_regs (t : State) (target : Word) : (t.ended target).regs = t.regs := rfl
@[simp] theorem State.ended_mem (t : State) (target : Word) : (t.ended target).mem = t.mem := rfl
@[simp] theorem State.ended_coprocs (t : State) (target : Word) : (t.ended target).coprocs = t.coprocs := rfl
@[simp] theorem State.ended_cpsr (t : State) (target : Word) : (t.ended target).cpsr = t.cpsr := rfl
@[simp] theorem State.ended_spsr (t : State) (target : Word) : (t.ended target).spsr = t.spsr := rfl
@[simp] theorem State.ended_events (t : State) (target : Word) : (t.ended target).events = t.events := rfl
@[simp] theorem State.ended_reg (t : State) (target : Word) (p : PReg) : (t.ended target).reg p = t.reg p := rfl
@[simp] theorem State.ended_cop (t : State) (target : Word) (n : BitVec 4) : (t.ended target).cop n = t.cop n := rfl

/-- The state `s` with the CPSR `psr`. -/
def State.withCpsr (s : State) (psr : Word) : State := { s with cpsr := psr }

@[simp] theorem State.withCpsr_pc (s : State) (psr : Word) : (s.withCpsr psr).pc = s.pc := rfl
@[simp] theorem State.withCpsr_regs (s : State) (psr : Word) : (s.withCpsr psr).regs = s.regs := rfl
@[simp] theorem State.withCpsr_mem (s : State) (psr : Word) : (s.withCpsr psr).mem = s.mem := rfl
@[simp] theorem State.withCpsr_coprocs (s : State) (psr : Word) : (s.withCpsr psr).coprocs = s.coprocs := rfl
@[simp] theorem State.withCpsr_cpsr (s : State) (psr : Word) : (s.withCpsr psr).cpsr = psr := rfl
@[simp] theorem State.withCpsr_spsr (s : State) (psr : Word) : (s.withCpsr psr).spsr = s.spsr := rfl
@[simp] theorem State.withCpsr_events (s : State) (psr : Word) : (s.withCpsr psr).events = s.events := rfl
@[simp] theorem State.withCpsr_reg (s : State) (psr : Word) (p : PReg) : (s.withCpsr psr).reg p = s.reg p := rfl

/-! ### Registers of a mode -/

theorem State.xm_congr {s t : State} {m : Mode} {n : RegIdx} (h : t.regs = s.regs) (hn : n ≠ 15#4) : t.xm m n = s.xm m n := by
  obtain ⟨p, hp⟩ := Option.ne_none_iff_exists'.1 (mt (bank_eq_none m n).1 hn)
  rw [State.xm_of_bank hp, State.xm_of_bank hp, reg_congr h]

theorem State.x_eq_xm {s t : State} (h : t.mode = s.mode) (n : RegIdx) : t.x n = t.xm s.mode n := by rw [State.x, h]

theorem State.x_congr {s t : State} {n : RegIdx} (h : t.regs = s.regs) (hm : t.mode = s.mode) (hn : n ≠ 15#4) : t.x n = s.x n :=
  (State.x_eq_xm hm n).trans (State.xm_congr h hn)

theorem State.xm_setXm_self (s : State) (m : Mode) {n : RegIdx} (v : Word) (hn : n ≠ 15#4) : (s.setXm m n v).xm m n = v := by
  rw [State.xm_setXm s m m v hn hn, if_pos rfl]

theorem State.xm_setXm_ne (s : State) (m : Mode) {n k : RegIdx} (v : Word) (h : k ≠ n) (hk : k ≠ 15#4) :
    (s.setXm m n v).xm m k = s.xm m k := by
  by_cases hn : n = 15#4
  · rw [State.setXm, (bank_eq_none m n).2 hn]
  · rw [State.xm_setXm s m m v hn hk, if_neg fun e => h (bank_eq_some hn e).symm]

theorem State.x_setX_ne (s : State) {n k : RegIdx} (v : Word) (h : k ≠ n) (hk : k ≠ 15#4) : (s.setX n v).x k = s.x k := by
  rw [State.x_eq_xm (s.mode_setX n v), State.setX, s.xm_setXm_ne s.mode v h hk, State.x]

theorem State.x_writeBack_self (s : State) {w : Bool} {n : RegIdx} (v : Word) (hw : w = true) (hn : n ≠ 15#4) :
    (s.writeBack w n v).x n = v := by
  rw [State.writeBack, if_pos hw, s.x_setX_self v hn]

theorem State.x_writeBack_ne (s : State) {w : Bool} {n k : RegIdx} (v : Word) (h : w = true → k ≠ n) (hk : k ≠ 15#4) :
    (s.writeBack w n v).x k = s.x k := by
  cases w with
  | true => exact s.x_setX_ne v (h rfl) hk
  | false => rfl

theorem State.xm_ended (t : State) (target : Word) (m : Mode) {n : RegIdx} (hn : n ≠ 15#4) : (t.ended target).xm m n = t.xm m n :=
  State.xm_congr rfl hn

theorem State.x_ended (t : State) (target : Word) {n : RegIdx} (hn : n ≠ 15#4) : (t.ended target).x n = t.x n :=
  State.xm_congr rfl hn

theorem State.mode_congr {s t : State} (h : t.cpsr.extractLsb' 0 28 = s.cpsr.extractLsb' 0 28) : t.mode = s.mode := mode_of_low h

theorem State.x_withCpsr (s : State) {psr : Word} (h : psr.extractLsb' 0 28 = s.cpsr.extractLsb' 0 28) {n : RegIdx} (hn : n ≠ 15#4) :
    (s.withCpsr psr).x n = s.x n :=
  State.x_congr rfl (State.mode_congr h) hn

/-! ### The registers that may have changed -/

theorem SameRegsBut.of_regs {s t : State} (h : t.regs = s.regs) : SameRegsBut [] s t := fun p _ => reg_congr h p

theorem SameRegsBut.mono {written more : List PReg} {s t : State} (h : SameRegsBut written s t) (hsub : written ⊆ more) :
    SameRegsBut more s t := fun p hp => h p (mt (@hsub p) hp)

theorem SameRegsBut.setXm {m : Mode} {ns : List RegIdx} {s t : State} (h : SameRegsBut (ns.filterMap (bank m)) s t) (n : RegIdx)
    (v : Word) :
    SameRegsBut ((ns ++ [n]).filterMap (bank m)) s (t.setXm m n v) := by
  intro p hp
  simp only [List.mem_filterMap, List.mem_append, List.mem_singleton, not_exists, not_and] at hp
  rw [t.reg_setXm_ne m n v (hp n (.inr rfl))]
  exact h p fun hmem => by
    obtain ⟨k, hk, hbank⟩ := List.mem_filterMap.1 hmem
    exact hp k (.inl hk) hbank

theorem SameRegsBut.setX {ns : List RegIdx} {s t : State} (h : SameRegsBut (banked s ns) s t) (hm : t.mode = s.mode) (n : RegIdx)
    (v : Word) :
    SameRegsBut (banked s (ns ++ [n])) s (t.setX n v) := by
  rw [State.setX, hm]
  exact SameRegsBut.setXm h n v

theorem SameRegsBut.writeBack {ns : List RegIdx} {s t : State} (h : SameRegsBut (banked s ns) s t) (hm : t.mode = s.mode) (w : Bool)
    (n : RegIdx) (v : Word) : SameRegsBut (banked s (if w then ns ++ [n] else ns)) s (t.writeBack w n v) := by
  cases w with
  | true => exact h.setX hm n v
  | false => exact h

/-! ### The end of the work -/

theorem Evolves.okAt {s t : State} (h : Evolves s t) (target : Word) : OkAt target s (t.ended target) :=
  ⟨rfl, rfl, h.halted, h.sameEnvironment⟩

theorem Evolves.okAt_withCpsr {s t : State} (h : Evolves s t) (psr target : Word) :
    OkAt target s ((t.withCpsr psr).ended target) :=
  ⟨rfl, rfl, h.halted, h.sameEnvironment⟩

theorem Evolves.advance {s t : State} (h : Evolves s t) : Machine.advance t = .next (t.ended (s.pc + 4#32)) := by
  rw [advance_eq, h.pc]

theorem Evolves.sameStatus {s t : State} (h : Evolves s t) : SameStatus s t := ⟨h.cpsr, h.spsr⟩

theorem SameMemory.of_mem {s t : State} (h : t.mem = s.mem) : SameMemory s t := fun a => by rw [h]

/-- A fault right after the call `e`, from a state the invocation has not changed before. -/
theorem faultsUntouched_called (s : State) (e : Event) (code : Nat) :
    ∃ t, guestFault (s.called e) code = .next t ∧ FaultsUntouched code [e] s t :=
  ⟨_, rfl, ⟨rfl, rfl, rfl, rfl, rfl, rfl, rfl, rfl, rfl, rfl⟩, rfl, rfl, rfl⟩

/-! ### Data processing -/

theorem sameRegsBut_setX (s : State) (n : RegIdx) (v : Word) : SameRegsBut (banked s [n]) s (s.setX n v) :=
  SameRegsBut.setX (ns := []) (.of_regs rfl) rfl n v

/-- Settles O31: the destination, then the flags. -/
theorem dataProcessingResult : Obligations.DataProcessingResult := by
  refine ⟨fun op cond sf rn rd o s r hrd hcond hr => ?_, fun cond rd v s hrd hcond => ?_⟩
  · rw [exec_dataProcessing, refusing_of_false _ _ _ (by simpa using hrd), gated_true _ _ _ hcond, ← hr]
    have hwork := runs_setX s rd r.value
    cases sf with
    | false =>
      exact ⟨_, hwork.keeps.advance, hwork.keeps.okAt _, (State.x_ended _ _ hrd).trans (s.x_setX_self _ hrd), sameRegsBut_setX s rd _,
        hwork.keeps.spsr,
        .of_mem (by simp), by simp [SameCoprocs], by simp, fun _ => hwork.keeps.cpsr, by simp⟩
    | true =>
      obtain ⟨hn, hz, hc, hv⟩ := flagsOf_withFlags s.cpsr (r.value.getLsbD 31)
        (decide (r.value = 0#32)) r.carry (r.overflow.getD (flagV s.cpsr))
      have hlow : (flagsAfter s.cpsr r).extractLsb' 0 28 = s.cpsr.extractLsb' 0 28 := extractLsb'_withFlags ..
      have hend : Machine.advance { s.setX rd r.value with cpsr := flagsAfter s.cpsr r } =
          .next (((s.setX rd r.value).withCpsr (flagsAfter s.cpsr r)).ended (s.pc + 4#32)) := by
        rw [← s.setX_pc rd r.value]; rfl
      refine ⟨_, hend, hwork.keeps.okAt_withCpsr _ _, ?_, sameRegsBut_setX s rd _, hwork.keeps.spsr, .of_mem (by simp),
        by simp [SameCoprocs], by simp,
        by simp, fun _ => ⟨hn, hz, hc, hv, hlow⟩⟩
      rw [State.x_ended _ _ hrd, State.x_withCpsr _ (by rwa [State.setX_cpsr]) hrd, s.x_setX_self _ hrd]
  · show ∃ t, execMovw cond rd v s = .next t ∧ _
    have hwork := runs_setX s rd (v.setWidth 32)
    rw [execMovw, refusing_of_false _ _ _ (by simpa using hrd), gated_true _ _ _ hcond]
    refine ⟨_, hwork.keeps.advance, hwork.keeps.okAt _, ?_, sameRegsBut_setX s rd _, hwork.keeps.sameStatus, .of_mem (by simp),
      by simp [SameCoprocs], by simp⟩
    rw [State.x_ended _ _ hrd, s.x_setX_self _ hrd, BitVec.toNat_setWidth_of_le (by decide)]

/-! ### One access of the memory port -/

theorem memRead_ok {s : State} {a : Word} {n : Size} {u : Bool} (h : s.portCode (s.readAccess a n u) = 0) :
    memRead s a n u = .ok (s.portData (s.readAccess a n u)) (s.called (.read a n u)) := if_pos h

theorem memRead_refused {s : State} {a : Word} {n : Size} {u : Bool} {code : Nat} (h : s.portCode (s.readAccess a n u) = code)
    (hne : code ≠ 0) : memRead s a n u = .err code (s.called (.read a n u)) := by
  subst h
  exact if_neg hne

/-- The state after a write that the port accepts. -/
def State.written (s : State) (a : Word) (n : Size) (v : Word) (u : Bool) : State :=
  { s.called (.write a n (truncateTo n v) u) with mem := s.mem.writeSize a v n }

theorem memWrite_ok {s : State} {a v : Word} {n : Size} {u : Bool} (h : s.portCode (s.writeAccess a n v u) = 0) :
    memWrite s a n v u = .ok () (s.written a n v u) := if_pos h

theorem memWrite_refused {s : State} {a v : Word} {n : Size} {u : Bool} {code : Nat} (h : s.portCode (s.writeAccess a n v u) = code)
    (hne : code ≠ 0) : memWrite s a n v u = .err code (s.called (.write a n (truncateTo n v) u)) := by
  subst h
  exact if_neg hne

theorem runs_read {s : State} {a : Word} {n : Size} {u : Bool} (h : s.portCode (s.readAccess a n u) = 0) :
    Runs [.read a n u] s (s.called (.read a n u)) :=
  runs_call (evolves_called s _) rfl rfl rfl id rfl fun _ => ⟨_, rfl, h⟩

theorem runs_written {s : State} {a v : Word} {n : Size} {u : Bool} (h : s.portCode (s.writeAccess a n v u) = 0) :
    Runs [.write a n (truncateTo n v) u] s (s.written a n v u) :=
  runs_call (evolves_memWrite (memWrite_ok h)) rfl rfl rfl id rfl fun _ => ⟨_, rfl, h⟩

/-! ### Loads -/

/-- A load that the port allows (R221, R261). -/
theorem loadSteps_ok {k : LoadKind} {user : Bool} {cond : Cond} {wback : Bool} {address wb : Word} {rn rt : RegIdx} {s : State}
    (hcond : condPassed cond s.cpsr = true) (hrt : rt ≠ 15#4) (hwb : wback = true → rn ≠ 15#4 ∧ rn ≠ rt)
    (hcode : s.portCode (s.readAccess address (loadSize k) user) = 0) :
    ∃ t, loadSteps k user cond wback address wb rn rt s = .next t ∧ OkAt (s.pc + 4#32) s t ∧
      t.x rt = extendLoad k (s.portData (s.readAccess address (loadSize k) user)) ∧ (wback = true → t.x rn = wb) ∧
      SameRegsBut (banked s (if wback then [rt, rn] else [rt])) s t ∧ SameStatus s t ∧ SameMemory s t ∧ SameCoprocs s t ∧
      t.events = s.events ++ [.read address (loadSize k) user] := by
  rw [loadSteps, gated_true _ _ _ hcond, memRead_ok hcode]
  have hwork := ((runs_read hcode).trans_nil (runs_setX _ rt (extendLoad k (s.portData (s.readAccess address (loadSize k) user))))).trans_nil
    (runs_writeBack _ wback rn wb)
  refine ⟨_, hwork.keeps.advance, hwork.keeps.okAt _, ?_, fun hw => ?_, ?_, hwork.keeps.sameStatus, .of_mem (by simp),
    by simp [SameCoprocs], hwork.events⟩
  · rw [State.x_ended _ _ hrt, State.x_writeBack_ne _ _ (fun hw => (hwb hw).2.symm) hrt, State.x_setX_self _ _ hrt]
  · rw [State.x_ended _ _ (hwb hw).1, State.x_writeBack_self _ _ hw (hwb hw).1]
  · exact (sameRegsBut_setX (s.called _) rt _).writeBack (s := s) (by simp) wback rn wb

/-- A load whose access the port refuses (R66, R422). -/
theorem loadSteps_refused {k : LoadKind} {user : Bool} {cond : Cond} {wback : Bool} {address wb : Word} {rn rt : RegIdx} {s : State}
    {code : Nat} (hcond : condPassed cond s.cpsr = true) (hne : code ≠ 0)
    (hcode : s.portCode (s.readAccess address (loadSize k) user) = code) :
    ∃ t, loadSteps k user cond wback address wb rn rt s = .next t ∧ FaultsUntouched code [.read address (loadSize k) user] s t := by
  rw [loadSteps, gated_true _ _ _ hcond, memRead_refused hcode hne]
  exact faultsUntouched_called s _ code

theorem baseLegal_iff {idx : Indexing} {rn rt : RegIdx} :
    baseLegal idx rn rt = true ↔ rt ≠ 15#4 ∧ (writesBack idx = true → rn ≠ 15#4 ∧ rn ≠ rt) := by
  unfold baseLegal
  cases writesBack idx <;> simp

theorem unprivilegedLegal_iff {rn rt : RegIdx} : unprivilegedLegal rn rt = true ↔ rt ≠ 15#4 ∧ rn ≠ 15#4 ∧ rn ≠ rt := by
  simp [unprivilegedLegal, and_assoc]

/-- Rounding down to a multiple of 4 clears the two lowest bits (R134). -/
theorem align4_eq (a : Word) : align4 a = a &&& ~~~3#32 := by
  have hmask : ∀ i, i < 32 → (~~~3#32 : Word).getLsbD i = decide (2 ≤ i) := by decide
  refine BitVec.eq_of_getLsbD_eq fun i hi => ?_
  have hshift : (align4 a).toNat = (a.toNat / 2 ^ 2) <<< 2 := by rw [align4_toNat, Nat.shiftLeft_eq]; omega
  rw [BitVec.getLsbD_and, hmask i hi, BitVec.getLsbD, hshift, Nat.testBit_shiftLeft, Nat.testBit_div_two_pow, Bool.and_comm]
  by_cases h : 2 ≤ i
  · rw [Nat.sub_add_cancel h, BitVec.getLsbD]
  · simp [h]

theorem literalBase_eq (s : State) : literalBase s = (s.pc + 8#32) &&& ~~~3#32 := by rw [literalBase, State.x, State.xm_pc, align4_eq]

/-- Settles O32. -/
theorem loadResult : Obligations.LoadResult := by
  intro f cond idx u rn rt s addr _ hlegal hoff hcond haddr hcode
  obtain ⟨hrt, hwb⟩ := baseLegal_iff.1 hlegal
  rw [exec_load, hlegal, hoff, Bool.and_self, if_pos rfl, loadFrom, ← haddr, ← loadSize_kind, ← extendLoad_kind]
  exact loadSteps_ok hcond hrt hwb (by rwa [loadSize_kind])

/-- Settles O33: a load without write-back from the base of a literal. -/
theorem loadLiteralResult : Obligations.LoadLiteralResult := by
  intro f cond u rt s addr hrt hcond haddr hcode
  have haddr' : transferAddress .offset u (literalBase s) (f.form.offset s) = addr := by rw [haddr, literalBase_eq]; rfl
  rw [exec_literal, if_pos (by simpa [writesBack] using hrt), haddr', ← loadSize_kind, ← extendLoad_kind]
  obtain ⟨t, ht, hok, hvalue, _, hkept⟩ :=
    loadSteps_ok (k := f.form.kind) (wb := 0#32) (rn := 15#4) (wback := false) hcond hrt (by simp) (by rwa [loadSize_kind])
  exact ⟨t, ht, hok, hvalue, hkept⟩

/-- Settles O34: a load at the base, with user privilege and write-back. -/
theorem loadUnprivilegedResult : Obligations.LoadUnprivilegedResult := by
  intro f cond u rn rt s hlegal hoff hcond hcode
  obtain ⟨hrt, hrn⟩ := unprivilegedLegal_iff.1 hlegal
  rw [exec_loadT, hlegal, hoff, Bool.and_self, if_pos rfl, loadUnprivileged, ← loadSize_kind, ← extendLoad_kind]
  obtain ⟨t, ht, hok, hvalue, hbase, hkept⟩ :=
    loadSteps_ok (k := f.kind) (wback := true) (wb := offsetAddress u (s.x rn) (f.offset s)) hcond hrt (fun _ => hrn)
      (by rwa [loadSize_kind])
  exact ⟨t, ht, hok, hvalue, hbase rfl, hkept⟩

/-! ### Stores -/

/-- A store that the port allows (R221, R261). -/
theorem storeSteps_ok {n : Size} {user : Bool} {cond : Cond} {wback : Bool} {address wb : Word} {rn rt : RegIdx} {s : State}
    (hmem : s.mem.wf = true) (hcond : condPassed cond s.cpsr = true) (hwb : wback = true → rn ≠ 15#4)
    (hcode : s.portCode (s.writeAccess address n (s.x rt) user) = 0) :
    ∃ t, storeSteps n user cond wback address wb rn rt s = .next t ∧ OkAt (s.pc + 4#32) s t ∧
      t.mem.readSize address n = truncateTo n (s.x rt) ∧ SameMemoryOutside address (sizeBytes n) s t ∧ (wback = true → t.x rn = wb) ∧
      SameRegsBut (banked s (if wback then [rn] else [])) s t ∧ SameStatus s t ∧ SameCoprocs s t ∧
      t.events = s.events ++ [.write address n (truncateTo n (s.x rt)) user] := by
  rw [storeSteps, gated_true _ _ _ hcond, memWrite_ok hcode]
  have hwork := (runs_written hcode).trans_nil (runs_writeBack _ wback rn wb)
  have hmemory : ((s.written address n (s.x rt) user).writeBack wback rn wb).mem = s.mem.writeSize address (s.x rt) n := by
    rw [State.writeBack_mem]; rfl
  refine ⟨_, hwork.keeps.advance, hwork.keeps.okAt _, ?_, fun b hb => ?_, fun hw => ?_, ?_, hwork.keeps.sameStatus, ?_, hwork.events⟩
  · rw [State.ended_mem, hmemory, Memory.readSize_of_holds (Memory.holds_writeSize hmem _ _ _)]
  · rw [State.ended_mem, hmemory, Memory.read8_writeSize_ne _ _ _ hb]
  · rw [State.x_ended _ _ (hwb hw), State.x_writeBack_self _ _ hw (hwb hw)]
  · exact SameRegsBut.writeBack (ns := []) (s := s) (t := s.written ..) (.of_regs rfl) rfl wback rn wb
  · simp [SameCoprocs, State.written]

/-- A store whose access the port refuses (R66, R422). -/
theorem storeSteps_refused {n : Size} {user : Bool} {cond : Cond} {wback : Bool} {address wb : Word} {rn rt : RegIdx} {s : State}
    {code : Nat} (hcond : condPassed cond s.cpsr = true) (hne : code ≠ 0)
    (hcode : s.portCode (s.writeAccess address n (s.x rt) user) = code) :
    ∃ t, storeSteps n user cond wback address wb rn rt s = .next t ∧
      FaultsUntouched code [.write address n (truncateTo n (s.x rt)) user] s t := by
  rw [storeSteps, gated_true _ _ _ hcond, memWrite_refused hcode hne]
  exact faultsUntouched_called s _ code

/-- Settles O35. -/
theorem storeResult : Obligations.StoreResult := by
  intro f cond idx u rn rt s addr hmem hlegal hoff hcond haddr hcode
  rw [exec_store, hlegal, hoff, Bool.and_self, if_pos rfl, storeTo, ← haddr]
  exact storeSteps_ok hmem hcond (fun hw => ((baseLegal_iff.1 hlegal).2 hw).1) hcode

/-- Settles O36: a store at the base, with user privilege and write-back. -/
theorem storeUnprivilegedResult : Obligations.StoreUnprivilegedResult := by
  intro f cond u rn rt s hmem hlegal hoff hcond hcode
  rw [exec_storeT, hlegal, hoff, Bool.and_self, if_pos rfl, storeUnprivileged]
  obtain ⟨t, ht, hok, hvalue, houtside, hbase, hkept⟩ :=
    storeSteps_ok (wback := true) (wb := offsetAddress u (s.x rn) (f.offset s)) hmem hcond
      (fun _ => (unprivilegedLegal_iff.1 hlegal).2.1) hcode
  exact ⟨t, ht, hok, hvalue, houtside, hbase rfl, hkept⟩

end Sys2Proof.Machine
end

/-! ## Proofs: transfers of several words (R70, R71, R226, R227, R290 to R305, R381 to R385) -/

section
/-! The loops of the block transfers as one state change: the state after the words that the port accepted, and what it holds. -/

namespace Sys2Proof.Machine

theorem wordAddr_zero (a : Word) : wordAddr a 0 = a := BitVec.add_zero a

theorem wordAddr_succ (a : Word) (j : Nat) : wordAddr (a + 4#32) j = wordAddr a (j + 1) := by
  rw [wordAddr, wordAddr, BitVec.add_assoc, ← BitVec.ofNat_add, Nat.mul_succ, Nat.add_comm]

/-! ### The memory of a block -/

/-- Memory after these words are written one after another from `a` on. -/
def Memory.writeWords (m : Memory) (a : Word) : List Word → Memory
  | [] => m
  | v :: rest => (m.writeSize a v .word).writeWords (a + 4#32) rest

theorem Memory.writeWords_concat (m : Memory) (a : Word) (values : List Word) (v : Word) :
    m.writeWords a (values ++ [v]) = (m.writeWords a values).writeSize (wordAddr a values.length) v .word := by
  induction values generalizing m a with
  | nil => rw [List.length_nil, wordAddr_zero]; rfl
  | cons w rest ih =>
    rw [List.length_cons, ← wordAddr_succ]
    exact ih _ _

/-- A byte of the first word of a block is in none of the later ones. -/
theorem not_within_next {a b : Word} {n : Nat} (hn : 4 + n ≤ 2 ^ 32) (h : (b - a).toNat < 4) : ¬ within (a + 4#32) n b := by
  unfold within
  have hb : b - (a + 4#32) = b - a - 4#32 := by rw [BitVec.sub_sub]
  rw [hb]
  bv_omega

theorem within_of_next {a b : Word} {n : Nat} (hn : 4 + n ≤ 2 ^ 32) (h : within (a + 4#32) n b) : within a (4 + n) b := by
  unfold within at *
  have hb : b - (a + 4#32) = b - a - 4#32 := by rw [BitVec.sub_sub]
  rw [hb] at h
  bv_omega

/-- No byte outside the block changes. -/
theorem Memory.read8_writeWords_ne (m : Memory) {a b : Word} {values : List Word} (hlen : 4 * values.length ≤ 2 ^ 32)
    (hb : ¬ within a (4 * values.length) b) : (m.writeWords a values).read8 b = m.read8 b := by
  induction values generalizing m a with
  | nil => rfl
  | cons v rest ih =>
    rw [List.length_cons, Nat.mul_succ, Nat.add_comm] at hlen hb
    refine (ih _ (by omega) fun h => hb (within_of_next hlen h)).trans (m.read8_writeSize_ne v .word fun h => hb ?_)
    exact Nat.lt_of_lt_of_le h (Nat.le_add_right ..)

theorem Memory.read32_congr {m m' : Memory} {a : Word} (h : ∀ b,
    (b - a).toNat < 4 → m'.read8 b = m.read8 b) : m'.read32 a = m.read32 a := by
  have hoff (k : Word) (hk : k.toNat < 4) : m'.read8 (a + k) = m.read8 (a + k) :=
    h _ (by rwa [BitVec.add_comm, BitVec.add_sub_cancel])
  rw [Memory.read32, Memory.read32, hoff 1#32 (by decide), hoff 2#32 (by decide), hoff 3#32 (by decide),
    h a (by rw [BitVec.sub_self]; decide)]

/-- Every word of the block reads at its place. -/
theorem Memory.read32_writeWords {m : Memory} (hm : m.wf = true) {a : Word} {values : List Word} (hlen : 4 * values.length ≤ 2 ^ 32) {j : Nat}
    {v : Word} (hv : values[j]? = some v) : (m.writeWords a values).read32 (wordAddr a j) = v := by
  induction values generalizing m a j with
  | nil => simp at hv
  | cons w rest ih =>
    rw [List.length_cons] at hlen
    cases j with
    | zero =>
      obtain rfl : w = v := by simpa using hv
      rw [wordAddr_zero]
      refine (Memory.read32_congr fun b hb => ?_).trans (m.read32_write32_self a w hm)
      exact Memory.read8_writeWords_ne _ (by omega) (not_within_next (by omega) hb)
    | succ j =>
      rw [← wordAddr_succ]
      exact ih (m.wf_writeSize a w .word hm) (by omega) (by simpa using hv)

/-! ### Stores -/

/-- The words `values` one after another from `a` on, each a write of the port. -/
def storeWords : List Word → Word → State → PortResult Unit
  | [], _, s => .ok () s
  | v :: rest, a, s => (memWrite s a .word v false).andThen fun _ s' => storeWords rest (a + 4#32) s'

/-- The state after the port has accepted these words from `a` on. -/
def State.storedWords (s : State) (a : Word) : List Word → State
  | [] => s
  | v :: rest => (s.written a .word v false).storedWords (a + 4#32) rest

theorem evolves_written (s : State) (a : Word) (n : Size) (v : Word) (u : Bool) : Evolves s (s.written a n v u) :=
  ⟨rfl, rfl, rfl, rfl, rfl, rfl, rfl, rfl, Memory.wf_writeSize _ _ _ _, id⟩

theorem evolves_storedWords (s : State) (a : Word) (values : List Word) : Evolves s (s.storedWords a values) := by
  induction values generalizing s a with
  | nil => exact .refl s
  | cons v rest ih => exact (evolves_written s a .word v false).trans (ih _ _)

@[simp] theorem State.storedWords_regs (s : State) (a : Word) (values : List Word) : (s.storedWords a values).regs = s.regs := by
  induction values generalizing s a with
  | nil => rfl
  | cons v rest ih => exact ih _ _

@[simp] theorem State.storedWords_coprocs (s : State) (a : Word) (values : List Word) : (s.storedWords a values).coprocs = s.coprocs := by
  induction values generalizing s a with
  | nil => rfl
  | cons v rest ih => exact ih _ _

@[simp] theorem State.storedWords_envTick (s : State) (a : Word) (values : List Word) :
    (s.storedWords a values).envTick = s.envTick + values.length := by
  induction values generalizing s a with
  | nil => rfl
  | cons v rest ih =>
    refine (ih _ _).trans ?_
    rw [List.length_cons, Nat.add_comm rest.length 1, ← Nat.add_assoc]
    rfl

theorem writeEvents_cons (a v : Word) (rest : List Word) :
    writeEvents a (v :: rest) = .write a .word v false :: writeEvents (a + 4#32) rest := by
  simp only [writeEvents, List.zipIdx_cons', List.map_cons, List.map_map, Function.comp_def, wordAddr_succ, wordAddr_zero, Prod.map, id]

theorem writeEvents_concat (a v : Word) (values : List Word) :
    writeEvents a (values ++ [v]) = writeEvents a values ++ [.write (wordAddr a values.length) .word v false] := by
  simp [writeEvents, List.zipIdx_append]

theorem State.storedWords_events (s : State) (a : Word) (values : List Word) :
    (s.storedWords a values).events = s.events ++ writeEvents a values := by
  induction values generalizing s a with
  | nil => simp [State.storedWords, writeEvents]
  | cons v rest ih =>
    rw [writeEvents_cons]
    exact (ih _ _).trans (List.append_assoc ..)

theorem State.storedWords_mem (s : State) (a : Word) (values : List Word) : (s.storedWords a values).mem = s.mem.writeWords a values := by
  induction values generalizing s a with
  | nil => rfl
  | cons v rest ih => exact ih _ _

theorem laterPortCode_zero (s : State) (a : PortAccess) : laterPortCode 0 s a = s.portCode a := rfl

theorem laterPortCode_called (s : State) (e : Event) (j : Nat)
    (a : PortAccess) : laterPortCode j (s.called e) a = laterPortCode (j + 1) s a :=
  laterPortCode_congr (s := s) (t := s.called e) rfl (Nat.add_right_comm s.envTick 1 j) a

theorem laterPortCode_written (s : State) (b v : Word) (n : Size) (u : Bool) (j : Nat) (a : PortAccess) :
    laterPortCode j (s.written b n v u) a = laterPortCode (j + 1) s a :=
  laterPortCode_congr (s := s) (t := s.written b n v u) rfl (Nat.add_right_comm s.envTick 1 j) a

theorem State.written_writeAccess (s : State) (b w : Word) (m : Size) (x : Bool) (a : Word) (n : Size) (v : Word) (u : Bool) :
    (s.written b m w x).writeAccess a n v u = s.writeAccess a n v u := rfl

/-- The work of a store of several words does what the port accepted, up to the first word that it refuses. -/
theorem storeWords_ok (s : State) (a : Word) (values : List Word)
    (hcode : ∀ j v, values[j]? = some v → laterPortCode j s (s.writeAccess (wordAddr a j) .word v false) = 0) :
    storeWords values a s = .ok () (s.storedWords a values) := by
  induction values generalizing s a with
  | nil => rfl
  | cons v rest ih =>
    have hfirst : s.portCode (s.writeAccess a .word v false) = 0 := by
      rw [← laterPortCode_zero, ← wordAddr_zero a]
      exact hcode 0 v rfl
    rw [storeWords, memWrite_ok hfirst]
    refine ih _ _ fun j w hw => ?_
    rw [wordAddr_succ, State.written_writeAccess, laterPortCode_written]
    exact hcode (j + 1) w (by simpa using hw)

theorem storeWords_refused (s : State) (a : Word) (values : List Word) {k code : Nat} (h : WriteFails id a values k code s) :
    ∃ v, values[k]? = some v ∧
      storeWords values a s = .err code ((s.storedWords a (values.take k)).called (.write (wordAddr a k) .word v false)) := by
  obtain ⟨hne, hk, hcode⟩ := h
  induction values generalizing s a k with
  | nil => simp at hk
  | cons v rest ih =>
    cases k with
    | zero =>
      have hfirst : s.portCode (s.writeAccess a .word v false) = code := by
        rw [← laterPortCode_zero, ← wordAddr_zero a]
        exact (hcode 0 v rfl).2 rfl
      refine ⟨v, rfl, ?_⟩
      rw [storeWords, memWrite_refused hfirst hne, wordAddr_zero]
      rfl
    | succ k =>
      have hfirst : s.portCode (s.writeAccess a .word v false) = 0 := by
        rw [← laterPortCode_zero, ← wordAddr_zero a]
        exact (hcode 0 v rfl).1 (Nat.succ_pos k)
      obtain ⟨w, hw, hrest⟩ := ih (s.written a .word v false) (a + 4#32) (by simpa using hk) fun j x hx => by
        rw [wordAddr_succ, State.written_writeAccess, laterPortCode_written]
        obtain ⟨hbefore, hat⟩ := hcode (j + 1) x (by simpa using hx)
        exact ⟨fun hj => hbefore (Nat.succ_lt_succ hj), fun hj => hat (congrArg Nat.succ hj)⟩
      refine ⟨w, by simpa using hw, ?_⟩
      rw [storeWords, memWrite_ok hfirst, ← wordAddr_succ]
      exact hrest

/-- What stays after the port has accepted `k` words and refused the next. -/
theorem storedUpTo {s : State} (hmem : s.mem.wf = true) (a : Word) {values : List Word} {k : Nat} (hk : k < values.length)
    (hlen : 4 * values.length ≤ 2 ^ 32) (e : Event) (code : Nat) :
    StoredUpTo a values k s { (s.storedWords a (values.take k)).called e with result := some (.guestFault code) } := by
  have htake : (values.take k).length = k := by rw [List.length_take, Nat.min_eq_left hk.le]
  refine ⟨fun j v hj hv => ?_, fun b hb => ?_, .of_regs (by simp), by simp [SameCoprocs]⟩
  · show (s.storedWords a (values.take k)).mem.read32 _ = v
    rw [State.storedWords_mem]
    exact Memory.read32_writeWords hmem (by omega) (by rw [List.getElem?_take_of_lt hj, hv])
  · show (s.storedWords a (values.take k)).mem.read8 b = _
    rw [State.storedWords_mem]
    exact Memory.read8_writeWords_ne _ (by omega) (by rwa [htake])

/-- The loop of STM and its last word store the values one after another (R291, R297). -/
theorem storeRegisters_andThen_storePc (m : Mode) (l : BitVec 16) (ns : List RegIdx) (a : Word) (s : State) :
    ((storeRegisters m ns a s).andThen fun addr s' => storePc l addr s') =
      storeWords (ns.map (s.xm m) ++ (if l.getLsbD 15 then [s.pc + 8#32] else [])) a s := by
  induction ns generalizing a s with
  | nil =>
    show storePc l a s = _
    rw [storePc, State.x, State.xm_pc]
    cases hpc : l.getLsbD 15 with
    | false => exact if_neg (Bool.eq_false_iff.1 hpc)
    | true =>
      refine (if_pos hpc).trans ?_
      show _ = (memWrite s a .word (s.pc + 8#32) false).andThen fun _ s' => .ok () s'
      cases memWrite s a .word (s.pc + 8#32) false <;> rfl
  | cons n rest ih =>
    rw [storeRegisters, List.map_cons, List.cons_append, storeWords]
    obtain ⟨_, h⟩ | ⟨_, h⟩ := memWrite_cases s a .word (s.xm m n) false
    · rw [h]
      exact ih _ _
    · rw [h]
      rfl

theorem storeBlock_eq (m : Mode) (l : BitVec 16) (a : Word) (s : State) :
    ((storeRegisters m (listedRegisters l) a s).andThen fun addr s' => storePc l addr s') = storeWords (blockValues m l s) a s :=
  storeRegisters_andThen_storePc m l (listedRegisters l) a s

/-! ### Loads -/

/-- The state after the port has given the words from `a` on to these registers of mode `m`. -/
def State.loadedRegisters (m : Mode) : List RegIdx → Word → State → State
  | [], _, s => s
  | n :: rest, a, s =>
    State.loadedRegisters m rest (a + 4#32) ((s.called (.read a .word false)).setXm m n (s.portData (s.readAccess a .word false)))

section
variable (m : Mode) (ns : List RegIdx) (a : Word) (s : State)

theorem evolves_loadedRegisters : Evolves s (State.loadedRegisters m ns a s) := by
  induction ns generalizing a s with
  | nil => exact .refl s
  | cons n rest ih => exact ((evolves_called s _).trans (evolves_setXm _ m n _)).trans (ih _ _)

theorem State.loadedRegisters_mem : (State.loadedRegisters m ns a s).mem = s.mem := by
  induction ns generalizing a s with
  | nil => rfl
  | cons n rest ih => exact (ih _ _).trans (by simp)

theorem State.loadedRegisters_coprocs : (State.loadedRegisters m ns a s).coprocs = s.coprocs := by
  induction ns generalizing a s with
  | nil => rfl
  | cons n rest ih => exact (ih _ _).trans (by simp)

theorem State.loadedRegisters_envTick : (State.loadedRegisters m ns a s).envTick = s.envTick + ns.length := by
  induction ns generalizing a s with
  | nil => rfl
  | cons n rest ih =>
    refine (ih _ _).trans ?_
    rw [setXm_envTick, called_envTick, List.length_cons, Nat.add_assoc, Nat.add_comm 1]

theorem State.loadedRegisters_events : (State.loadedRegisters m ns a s).events = s.events ++ readEvents a ns.length := by
  induction ns generalizing a s with
  | nil => simp [loadedRegisters, readEvents]
  | cons n rest ih =>
    refine (ih _ _).trans ?_
    simp [readEvents, List.range_succ_eq_map, wordAddr_zero, wordAddr_succ]

theorem not_mem_banked {p : PReg} : p ∉ ns.filterMap (bank m) ↔ ∀ n ∈ ns, bank m n ≠ some p := by
  simp [List.mem_filterMap]

theorem sameRegsBut_loadedRegisters : SameRegsBut (ns.filterMap (bank m)) s (State.loadedRegisters m ns a s) := by
  induction ns generalizing a s with
  | nil => exact .of_regs rfl
  | cons n rest ih =>
    intro p hp
    rw [not_mem_banked] at hp
    exact (ih _ _ p ((not_mem_banked m rest).2 fun k hk => hp k (List.mem_cons_of_mem n hk))).trans
      (State.reg_setXm_ne _ m n _ (hp n List.mem_cons_self))

end

/-- A register that is not in the list reads as before. -/
theorem SameRegsBut.xm_eq {m : Mode} {ns : List RegIdx} {s t : State} (h : SameRegsBut (ns.filterMap (bank m)) s t) {n : RegIdx}
    (hn : n ≠ 15#4) (hmem : n ∉ ns) : t.xm m n = s.xm m n := by
  obtain ⟨p, hp⟩ := Option.ne_none_iff_exists'.1 (mt (bank_eq_none m n).1 hn)
  rw [State.xm_of_bank hp, State.xm_of_bank hp]
  refine h p ((not_mem_banked m ns).2 fun k hk hbank => hmem ?_)
  rwa [bank_eq_some hn (hp.trans hbank.symm)]

theorem laterPortData_congr {s t : State} {j k : Nat} (hport : t.port = s.port) (hmem : t.mem = s.mem)
    (htick : t.envTick + j = s.envTick + k) (a : PortAccess) : laterPortData j t a = laterPortData k s a := by
  simp [laterPortData, State.portData, hport, hmem, htick]

theorem State.readAccess_congr {s t : State} (h : t.mode = s.mode) (a : Word) (n : Size)
    (u : Bool) : t.readAccess a n u = s.readAccess a n u := by
  rw [readAccess, readAccess, h]

theorem State.writeAccess_congr {s t : State} (h : t.mode = s.mode) (a : Word) (n : Size) (v : Word) (u : Bool) :
    t.writeAccess a n v u = s.writeAccess a n v u := by
  rw [writeAccess, writeAccess, h]

theorem State.readAccess_afterRead (s : State) (e : Event) (m : Mode) (n : RegIdx) (v b : Word) (k : Size) (u : Bool) :
    ((s.called e).setXm m n v).readAccess b k u = s.readAccess b k u := State.readAccess_congr (by simp) b k u

theorem laterPortCode_afterRead (s : State) (e : Event) (m : Mode) (n : RegIdx) (v : Word) (j : Nat) (a : PortAccess) :
    laterPortCode j ((s.called e).setXm m n v) a = laterPortCode (j + 1) s a :=
  (laterPortCode_congr (by simp) (by simp) a).trans (laterPortCode_called s e j a)

theorem laterPortData_afterRead (s : State) (e : Event) (m : Mode) (n : RegIdx) (v : Word) (j : Nat) (a : PortAccess) :
    laterPortData j ((s.called e).setXm m n v) a = laterPortData (j + 1) s a :=
  laterPortData_congr (by simp) (by simp) (by rw [State.setXm_envTick, State.called_envTick, Nat.add_assoc, Nat.add_comm 1]) a

/-- Each register of the list holds the word that the port gave for it. -/
theorem loadedRegisters_xm {m : Mode} {ns : List RegIdx} {a : Word} {s : State} (hnodup : ns.Nodup) (hpc : 15#4 ∉ ns) {j : Nat} {n : RegIdx}
    (hn : ns[j]? = some n) : (State.loadedRegisters m ns a s).xm m n = laterPortData j s (s.readAccess (wordAddr a j) .word false) := by
  induction ns generalizing a s j with
  | nil => simp at hn
  | cons k rest ih =>
    obtain ⟨hk, hrest⟩ := List.nodup_cons.1 hnodup
    cases j with
    | zero =>
      obtain rfl : k = n := by simpa using hn
      have hk15 : k ≠ 15#4 := fun h => hpc (h ▸ List.mem_cons_self)
      rw [wordAddr_zero]
      exact ((sameRegsBut_loadedRegisters m rest _ _).xm_eq hk15 hk).trans (State.xm_setXm_self _ m _ hk15)
    | succ j =>
      refine (ih hrest (fun h => hpc (List.mem_cons_of_mem k h)) (by simpa using hn)).trans ?_
      rw [wordAddr_succ, State.readAccess_afterRead, laterPortData_afterRead]

/-- The loop of a load does what the port accepted, up to the first word that it refuses. -/
theorem loadRegisters_ok (m : Mode) (ns : List RegIdx) (a : Word) (s : State)
    (hcode : ∀ j, j < ns.length → laterPortCode j s (s.readAccess (wordAddr a j) .word false) = 0) :
    loadRegisters m ns a s = .ok (wordAddr a ns.length) (State.loadedRegisters m ns a s) := by
  induction ns generalizing a s with
  | nil => rw [List.length_nil, wordAddr_zero]; rfl
  | cons n rest ih =>
    have hfirst : s.portCode (s.readAccess a .word false) = 0 := by
      rw [← laterPortCode_zero, ← wordAddr_zero a]
      exact hcode 0 (Nat.succ_pos _)
    rw [loadRegisters, memRead_ok hfirst, List.length_cons, ← wordAddr_succ]
    refine ih _ _ fun j hj => ?_
    rw [wordAddr_succ, State.readAccess_afterRead, laterPortCode_afterRead]
    exact hcode (j + 1) (Nat.succ_lt_succ hj)

theorem loadRegisters_refused (m : Mode) (ns : List RegIdx) (a : Word) (s : State) {k code : Nat} (hk : k < ns.length)
    (h : ReadFails id a k code s) : loadRegisters m ns a s =
      .err code ((State.loadedRegisters m (ns.take k) a s).called (.read (wordAddr a k) .word false)) := by
  obtain ⟨hne, hbefore, hat⟩ := h
  induction ns generalizing a s k with
  | nil => simp at hk
  | cons n rest ih =>
    cases k with
    | zero =>
      have hfirst : s.portCode (s.readAccess a .word false) = code := by
        rw [← laterPortCode_zero, ← wordAddr_zero a]
        exact hat
      rw [loadRegisters, memRead_refused hfirst hne, wordAddr_zero]
      rfl
    | succ k =>
      have hfirst : s.portCode (s.readAccess a .word false) = 0 := by
        rw [← laterPortCode_zero, ← wordAddr_zero a]
        exact hbefore 0 (Nat.succ_pos k)
      rw [loadRegisters, memRead_ok hfirst, ← wordAddr_succ]
      have hnext (j : Nat) : laterPortCode j ((s.called (.read a .word false)).setXm m n (s.portData (s.readAccess a .word false)))
          (((s.called (.read a .word false)).setXm m n (s.portData (s.readAccess a .word false))).readAccess (wordAddr (a + 4#32) j) .word false) =
          laterPortCode (j + 1) s (s.readAccess (wordAddr a (j + 1)) .word false) := by
        rw [wordAddr_succ, State.readAccess_afterRead, laterPortCode_afterRead]
      exact ih (a + 4#32) _ (Nat.lt_of_succ_lt_succ hk) (fun j hj => (hnext j).trans (hbefore (j + 1) (Nat.succ_lt_succ hj)))
        ((hnext k).trans hat)

/-- What stays after the port has given `k` words and refused the next. -/
theorem loadedUpTo {m : Mode} {ns : List RegIdx} {a : Word} {s : State} (hnodup : ns.Nodup) (hpc : 15#4 ∉ ns) (k : Nat) (e : Event)
    (code : Nat) :
    LoadedUpTo m ns a k s { (State.loadedRegisters m (ns.take k) a s).called e with result := some (.guestFault code) } where
  loaded := fun j n hj hn => by
    have hread := loadedRegisters_xm (m := m) (a := a) (s := s) (hnodup.sublist (List.take_sublist k ns))
      (fun h => hpc (List.mem_of_mem_take h)) (j := j) (n := n) (by rw [List.getElem?_take_of_lt hj, hn])
    refine (State.xm_congr rfl fun h => hpc (h ▸ List.mem_of_getElem? hn)).trans hread
  others := sameRegsBut_loadedRegisters m (ns.take k) a s
  mem := .of_mem (State.loadedRegisters_mem m (ns.take k) a s)
  coprocs := State.loadedRegisters_coprocs m (ns.take k) a s

theorem listedRegisters_nodup (l : BitVec 16) : (listedRegisters l).Nodup :=
  (listedRegisters_pairwise l).imp fun {i j} (h : i.toNat < j.toNat) (e : i = j) => Nat.lt_irrefl _ (e ▸ h)

theorem pc_not_listed (l : BitVec 16) : 15#4 ∉ listedRegisters l := fun h => ((mem_listedRegisters l 15#4).1 h).1 rfl

end Sys2Proof.Machine
end

/-! ## Proofs: doubleword and exclusive transfers, and the faults of the single transfers (R226, R227, R240, R241, R422) -/

section
namespace Sys2Proof.Machine

/-! ### The reference memory -/

theorem PlainMemory.laterPortCode {s : State} (h : PlainMemory s) (j : Nat) (a : PortAccess) : Machine.laterPortCode j s a = 0 := by
  obtain ⟨d, hd⟩ := h
  exact portCode_reference _ a hd

theorem PlainMemory.portCode {s : State} (h : PlainMemory s) (a : PortAccess) : s.portCode a = 0 := h.laterPortCode 0 a

theorem PlainMemory.laterPortData {s : State} (h : PlainMemory s) (j : Nat) (a : Word) (u : Bool) :
    Machine.laterPortData j s (s.readAccess a .word u) = s.mem.read32 a := by
  obtain ⟨d, hd⟩ := h
  exact portData_reference _ _ hd

/-! ### Two words -/

/-- Both words read before either register is written. -/
theorem loadDoubleSteps_ok {cond : Cond} {wback : Bool} {address wb : Word} {rn rt : RegIdx} {s : State} (hport : PlainMemory s)
    (hcond : condPassed cond s.cpsr = true) (hrt : rt ≠ 15#4) (hrt1 : rt + 1#4 ≠ 15#4)
    (hwb : wback = true → rn ≠ 15#4 ∧ rn ≠ rt ∧ rn ≠ rt + 1#4) :
    ∃ t, loadDoubleSteps cond wback address wb rn rt s = .next t ∧ OkAt (s.pc + 4#32) s t ∧ t.x rt = s.mem.read32 address ∧
      t.x (rt + 1#4) = s.mem.read32 (address + 4#32) ∧ (wback = true → t.x rn = wb) ∧
      SameRegsBut (banked s (if wback then [rt, rt + 1#4, rn] else [rt, rt + 1#4])) s t ∧ SameStatus s t ∧ SameMemory s t ∧
        SameCoprocs s t ∧
      t.events = s.events ++ [.read address .word false, .read (address + 4#32) .word false] := by
  have hport1 : PlainMemory (s.called (.read address .word false)) := hport
  have hlow : s.portData (s.readAccess address .word false) = s.mem.read32 address := hport.laterPortData 0 address false
  have hhigh : (s.called (.read address .word false)).portData ((s.called (.read address .word false)).readAccess (address + 4#32) .word false) =
      s.mem.read32 (address + 4#32) := hport1.laterPortData 0 _ false
  rw [loadDoubleSteps, gated_true _ _ _ hcond, memRead_ok (hport.portCode _), PortResult.andThen, memRead_ok (hport1.portCode _), hlow,
    hhigh]
  have hreads := (runs_read (hport.portCode (s.readAccess address .word false))).trans
    (runs_read (hport1.portCode (State.readAccess _ (address + 4#32) .word false)))
  have hwork := ((hreads.trans_nil (runs_setX _ rt (s.mem.read32 address))).trans_nil
    (runs_setX _ (rt + 1#4) (s.mem.read32 (address + 4#32)))).trans_nil (runs_writeBack _ wback rn wb)
  have hne : rt ≠ rt + 1#4 := by simp
  refine ⟨_, hwork.keeps.advance, hwork.keeps.okAt _, ?_, ?_, fun hw => ?_, ?_, hwork.keeps.sameStatus, .of_mem (by simp),
    by simp [SameCoprocs], hwork.events⟩
  · rw [State.x_ended _ _ hrt, State.x_writeBack_ne _ _ (fun hw => (hwb hw).2.1.symm) hrt, State.x_setX_ne _ _ hne hrt,
      State.x_setX_self _ _ hrt]
  · rw [State.x_ended _ _ hrt1, State.x_writeBack_ne _ _ (fun hw => (hwb hw).2.2.symm) hrt1, State.x_setX_self _ _ hrt1]
  · rw [State.x_ended _ _ (hwb hw).1, State.x_writeBack_self _ _ hw (hwb hw).1]
  · exact SameRegsBut.writeBack (s := s) ((sameRegsBut_setX ((s.called _).called _) rt _).setX (by simp) (rt + 1#4) _) (by simp) wback rn wb

theorem loadDoubleSteps_refused_first {cond : Cond} {wback : Bool} {address wb : Word} {rn rt : RegIdx} {s : State} {code : Nat}
    (hcond : condPassed cond s.cpsr = true) (hne : code ≠ 0) (hcode : s.portCode (s.readAccess address .word false) = code) :
    ∃ t, loadDoubleSteps cond wback address wb rn rt s = .next t ∧ FaultsUntouched code [.read address .word false] s t := by
  rw [loadDoubleSteps, gated_true _ _ _ hcond, memRead_refused hcode hne]
  exact faultsUntouched_called s _ code

theorem loadDoubleSteps_refused_second {cond : Cond} {wback : Bool} {address wb : Word} {rn rt : RegIdx} {s : State} {code : Nat}
    (hcond : condPassed cond s.cpsr = true) (hne : code ≠ 0) (hfirst : s.portCode (s.readAccess address .word false) = 0)
    (hcode : laterPortCode 1 s (s.readAccess (address + 4#32) .word false) = code) :
    ∃ t, loadDoubleSteps cond wback address wb rn rt s = .next t ∧
      FaultsUntouched code [.read address .word false, .read (address + 4#32) .word false] s t := by
  have hsecond : (s.called (.read address .word false)).portCode ((s.called (.read address .word false)).readAccess (address + 4#32) .word false) =
      code := hcode
  rw [loadDoubleSteps, gated_true _ _ _ hcond, memRead_ok hfirst, PortResult.andThen, memRead_refused hsecond hne]
  exact ⟨_, rfl, ⟨rfl, rfl, rfl, rfl, rfl, rfl, rfl, rfl, rfl, rfl⟩, rfl, by simp, rfl⟩

/-- STRD and SRS store two words. -/
theorem memWrite_andThen_memWrite (s : State) (a v : Word) (w : State → Word) (hw : ∀ t, t.regs = s.regs → t.mode = s.mode → w t = w s) :
    ((memWrite s a .word v false).andThen fun _ s1 => memWrite s1 (a + 4#32) .word (w s1) false) = storeWords [v, w s] a s := by
  rw [storeWords]
  obtain ⟨_, h⟩ | ⟨_, h⟩ := memWrite_cases s a .word v false
  · rw [h]
    show memWrite (s.written a .word v false) (a + 4#32) .word (w (s.written a .word v false)) false =
      (memWrite (s.written a .word v false) (a + 4#32) .word (w s) false).andThen fun _ s' => .ok () s'
    rw [hw (s.written a .word v false) rfl rfl]
    cases memWrite (s.written a .word v false) (a + 4#32) .word (w s) false <;> rfl
  · rw [h]
    rfl

theorem Memory.writeWords_two {m : Memory} (hm : m.wf = true) (a v w : Word) : (m.writeWords a [v, w]).read32 a = v ∧
    (m.writeWords a [v, w]).read32 (a + 4#32) = w ∧ ∀ b, ¬ within a 8 b → (m.writeWords a [v, w]).read8 b = m.read8 b := by
  have hlen : 4 * [v, w].length ≤ 2 ^ 32 := by simp
  refine ⟨?_, Memory.read32_writeWords hm hlen (j := 1) rfl, fun b hb => m.read8_writeWords_ne hlen hb⟩
  have hlow := Memory.read32_writeWords hm hlen (a := a) (j := 0) rfl
  rwa [wordAddr_zero] at hlow

theorem writeEvents_two (a v w : Word) : writeEvents a [v, w] = [.write a .word v false, .write (a + 4#32) .word w false] := by
  rw [writeEvents_cons, writeEvents_cons]
  rfl

theorem storeDoubleSteps_eq (cond : Cond) (wback : Bool) (address wb : Word) (rn : RegIdx) {rt : RegIdx} (s : State)
    (hrt1 : rt + 1#4 ≠ 15#4) :
    storeDoubleSteps cond wback address wb rn rt s =
      gated cond s ((storeWords [s.x rt, s.x (rt + 1#4)] address s).orFault fun _ s' => advance (s'.writeBack wback rn wb)) := by
  rw [storeDoubleSteps, memWrite_andThen_memWrite s address (s.x rt)
    (fun t => t.x (rt + 1#4)) fun t hregs hmode => State.x_congr hregs hmode hrt1]

/-! ### The registers of a doubleword transfer -/

theorem doubleLegal_iff {idx : Indexing} {rn rt : RegIdx} : doubleLegal idx rn rt = true ↔
    (rt.getLsbD 0 = false ∧ rt ≠ 14#4) ∧ (writesBack idx = true → rn ≠ 15#4 ∧ rn ≠ rt ∧ rn ≠ rt + 1#4) := by
  unfold doubleLegal
  cases writesBack idx <;> simp [and_assoc]

/-- An even register other than 14, and the next one, are not register 15. -/
theorem pair_ne_pc : ∀ rt : RegIdx, rt.getLsbD 0 = false → rt ≠ 14#4 → rt ≠ 15#4 ∧ rt + 1#4 ≠ 15#4 := by decide

/-- Settles O37: LDRD, its literal form and STRD. -/
theorem doublewordResults : Obligations.DoublewordResults := by
  refine ⟨fun o cond idx u rn rt s addr hport _ hlegal hoff hcond haddr => ?_, fun cond u rt v s addr hport heven h14 hcond haddr => ?_,
    fun o cond idx u rn rt s addr hport hmem hlegal hoff hcond haddr => ?_⟩
  · obtain ⟨⟨heven, h14⟩, hwb⟩ := doubleLegal_iff.1 hlegal
    obtain ⟨hrt, hrt1⟩ := pair_ne_pc rt heven h14
    rw [exec_ldrd, hlegal, hoff, Bool.and_self, if_pos rfl, loadDouble, ← haddr]
    exact loadDoubleSteps_ok hport hcond hrt hrt1 hwb
  · obtain ⟨hrt, hrt1⟩ := pair_ne_pc rt heven h14
    have haddr' : transferAddress .offset u (literalBase s) (v.setWidth 32) = addr := by rw [haddr, literalBase_eq]; rfl
    rw [exec_ldrdLiteral, if_pos (by rw [heven]; simp [h14, writesBack]), haddr']
    obtain ⟨t, ht, hok, hlow, hhigh, _, hkept⟩ :=
      loadDoubleSteps_ok (rn := 15#4) (wb := 0#32) (wback := false) hport hcond hrt hrt1 (by simp)
    exact ⟨t, ht, hok, hlow, hhigh, hkept⟩
  · obtain ⟨⟨heven, h14⟩, hwb⟩ := doubleLegal_iff.1 hlegal
    obtain ⟨hrt, hrt1⟩ := pair_ne_pc rt heven h14
    rw [exec_strd, hlegal, hoff, Bool.and_self, if_pos rfl, storeDouble, ← haddr, storeDoubleSteps_eq _ _ _ _ _ _ hrt1,
      gated_true _ _ _ hcond,
      storeWords_ok s addr _ fun j v _ => hport.laterPortCode j _]
    have hkeeps := (evolves_storedWords s addr [s.x rt, s.x (rt + 1#4)]).trans
      (evolves_writeBack _ (writesBack idx) rn (offsetAddress u (s.x rn) (o.value s)))
    have hmemory : ((s.storedWords addr [s.x rt, s.x (rt + 1#4)]).writeBack (writesBack idx) rn (offsetAddress u (s.x rn)
      (o.value s))).mem =
        s.mem.writeWords addr [s.x rt, s.x (rt + 1#4)] := (State.writeBack_mem ..).trans (State.storedWords_mem ..)
    obtain ⟨hlow, hhigh, houtside⟩ := Memory.writeWords_two hmem addr (s.x rt) (s.x (rt + 1#4))
    refine ⟨_, hkeeps.advance, hkeeps.okAt _, ?_, ?_, fun b hb => ?_, fun hw => ?_, ?_, hkeeps.sameStatus, by simp [SameCoprocs], ?_⟩
    · rw [State.ended_mem, hmemory]
      exact hlow
    · rw [State.ended_mem, hmemory]
      exact hhigh
    · rw [State.ended_mem, hmemory]
      exact houtside b hb
    · rw [State.x_ended _ _ (hwb hw).1, State.x_writeBack_self _ _ hw (hwb hw).1]
    · exact SameRegsBut.writeBack (ns := []) (s := s) (t := s.storedWords ..) (.of_regs (by simp)) (evolves_storedWords ..).mode _ rn _
    · rw [State.ended_events, State.writeBack_events, State.storedWords_events, writeEvents_two]

/-! ### Exclusive transfers -/

theorem memReadX_ok {s : State} {a : Word} (h : s.portCode (s.readExclusiveAccess a) = 0) :
    memReadX s a = .ok (s.portData (s.readExclusiveAccess a)) (s.called (.readX a)) := if_pos h

theorem memReadX_refused {s : State} {a : Word} {code : Nat} (h : s.portCode (s.readExclusiveAccess a) = code) (hne : code ≠ 0) :
    memReadX s a = .err code (s.called (.readX a)) := by
  subst h
  exact if_neg hne

theorem memWriteX_ok {s : State} {a v : Word} (h : s.portCode (s.writeExclusiveAccess a v) = 0) : memWriteX s a v =
    if s.portExclusiveDone (s.writeExclusiveAccess a v) then .ok true { s.called (.writeX a v) with mem := s.mem.writeSize a v .word }
    else .ok false (s.called (.writeX a v)) := if_pos h

theorem memWriteX_refused {s : State} {a v : Word} {code : Nat} (h : s.portCode (s.writeExclusiveAccess a v) = code) (hne : code ≠ 0) :
    memWriteX s a v = .err code (s.called (.writeX a v)) := by
  subst h
  exact if_neg hne

/-- Settles O38: LDREX, and both answers to STREX. -/
theorem exclusiveResults : Obligations.ExclusiveResults := by
  refine ⟨fun cond rn rt s hrt hrn hcond hcode => ?_, fun cond rn rd rt s hmem hrd hrt hrn hdn hdt hcond hcode => ?_⟩
  · rw [exec_ldrex, if_pos (by simp [hrt, hrn]), gated_true _ _ _ hcond, memReadX_ok hcode]
    have hkeeps := (evolves_called s (.readX (s.x rn))).trans (evolves_setX _ rt (s.portData (s.readExclusiveAccess (s.x rn))))
    exact ⟨_, hkeeps.advance, hkeeps.okAt _, (State.x_ended _ _ hrt).trans (State.x_setX_self _ _ hrt), sameRegsBut_setX (s.called _) rt _,
      hkeeps.sameStatus, .of_mem (by simp), by simp [SameCoprocs], by simp⟩
  · rw [exec_strex, if_pos (by simp [hrd, hrt, hrn, hdn, hdt]), gated_true _ _ _ hcond, memWriteX_ok hcode]
    cases hdone : s.portExclusiveDone (s.writeExclusiveAccess (s.x rn) (s.x rt)) with
    | true =>
      have hstored : Evolves s { s.called (.writeX (s.x rn) (s.x rt)) with mem := s.mem.writeSize (s.x rn) (s.x rt) .word } :=
        ⟨rfl, rfl, rfl, rfl, rfl, rfl, rfl, rfl, Memory.wf_writeSize _ _ _ .word, id⟩
      have hkeeps := hstored.trans (evolves_setX _ rd 0#32)
      refine ⟨_, hkeeps.advance, hkeeps.okAt _, fun _ => ⟨(State.x_ended _ _ hrd).trans (State.x_setX_self _ _ hrd), ?_, fun b hb => ?_⟩,
        by simp,
        sameRegsBut_setX { s.called _ with mem := _ } rd _, hkeeps.sameStatus, by simp [SameCoprocs], by simp⟩
      · rw [State.ended_mem, State.setX_mem]
        exact s.mem.read32_write32_self _ _ hmem
      · rw [State.ended_mem, State.setX_mem]
        exact s.mem.read8_writeSize_ne _ .word hb
    | false =>
      have hkeeps := (evolves_called s (.writeX (s.x rn) (s.x rt))).trans (evolves_setX _ rd 1#32)
      exact ⟨_, hkeeps.advance, hkeeps.okAt _, by simp, fun _ => ⟨(State.x_ended _ _ hrd).trans (State.x_setX_self _ _ hrd),
        .of_mem (by simp)⟩,
        sameRegsBut_setX (s.called _) rd _, hkeeps.sameStatus, by simp [SameCoprocs], by simp⟩

/-! ### Faults -/

theorem storeDoubleSteps_refused_first {cond : Cond} {wback : Bool} {address wb : Word} {rn rt : RegIdx} {s : State} {code : Nat}
    (hcond : condPassed cond s.cpsr = true) (hne : code ≠ 0) (hcode : s.portCode (s.writeAccess address .word (s.x rt) false) = code) :
    ∃ t, storeDoubleSteps cond wback address wb rn rt s = .next t ∧ FaultsUntouched code [.write address .word (s.x rt) false] s t := by
  rw [storeDoubleSteps, gated_true _ _ _ hcond, memWrite_refused hcode hne]
  exact faultsUntouched_called s _ code

/-- The first word stays written when the second is refused (D14). -/
theorem storeDoubleSteps_refused_second {cond : Cond} {wback : Bool} {address wb : Word} {rn rt : RegIdx} {s : State} {code : Nat}
    (hrt1 : rt + 1#4 ≠ 15#4) (hmem : s.mem.wf = true) (hcond : condPassed cond s.cpsr = true) (hne : code ≠ 0)
    (hfirst : s.portCode (s.writeAccess address .word (s.x rt) false) = 0)
    (hcode : laterPortCode 1 s (s.writeAccess (address + 4#32) .word (s.x (rt + 1#4)) false) = code) :
    ∃ t, storeDoubleSteps cond wback address wb rn rt s = .next t ∧ t.result = some (.guestFault code) ∧ t.mem.read32 address = s.x rt ∧
      SameMemoryOutside address 4 s t ∧ SameRegsBut [] s t ∧ t.pc = s.pc ∧ SameStatus s t ∧ SameCoprocs s t ∧ SameEnvironment s t ∧
      t.halted = s.halted ∧
      t.events = s.events ++ [.write address .word (s.x rt) false, .write (address + 4#32) .word (s.x (rt + 1#4)) false] := by
  have hsecond : (s.written address .word (s.x rt) false).x (rt + 1#4) = s.x (rt + 1#4) := State.x_congr rfl rfl hrt1
  have hrefused : memWrite (s.written address .word (s.x rt) false) (address + 4#32) .word (s.x (rt + 1#4)) false = _ :=
    memWrite_refused hcode hne
  rw [storeDoubleSteps, gated_true _ _ _ hcond, memWrite_ok hfirst, PortResult.andThen, hsecond, hrefused]
  exact ⟨_, rfl, rfl, s.mem.read32_write32_self _ _ hmem, fun b hb => s.mem.read8_writeSize_ne _ .word hb, .of_regs rfl, rfl, ⟨rfl, rfl⟩,
    rfl,
    ⟨rfl, rfl, rfl, rfl⟩, rfl, List.append_assoc ..⟩

/-- Settles O39: each form is one access, or two, that the port refuses. -/
theorem transferFaults : Obligations.TransferFaults := by
  intro cond idx u rn rt rd s addr code hcond hne
  have hliteral (off : Word) : transferAddress .offset u (literalBase s) off = offsetAddress u ((s.pc + 8#32) &&& ~~~3#32) off := by
    rw [literalBase_eq]; rfl
  refine ⟨fun f hlegal hoff haddr hcode => ?_, fun f hlegal hoff haddr hcode => ?_, fun f hrt haddr hcode => ?_,
    fun f hlegal hoff haddr hcode => ?_, fun f hlegal hoff haddr hcode => ?_, fun hrt hrn haddr hcode => ?_,
    fun hrd hrt hrn hdn hdt haddr hcode => ?_, fun o hlegal hoff haddr => ?_, fun v heven h14 haddr => ?_, fun o hlegal hoff haddr => ?_⟩
  · rw [exec_load, hlegal, hoff, Bool.and_self, if_pos rfl, loadFrom, ← haddr, ← loadSize_kind]
    exact loadSteps_refused hcond hne (by rwa [loadSize_kind])
  · rw [exec_loadT, hlegal, hoff, Bool.and_self, if_pos rfl, loadUnprivileged, ← haddr, ← loadSize_kind]
    exact loadSteps_refused hcond hne (by rwa [loadSize_kind])
  · rw [exec_literal, if_pos (by simpa [writesBack] using hrt), hliteral, ← haddr, ← loadSize_kind]
    exact loadSteps_refused hcond hne (by rwa [loadSize_kind])
  · rw [exec_store, hlegal, hoff, Bool.and_self, if_pos rfl, storeTo, ← haddr]
    exact storeSteps_refused hcond hne hcode
  · rw [exec_storeT, hlegal, hoff, Bool.and_self, if_pos rfl, storeUnprivileged, ← haddr]
    exact storeSteps_refused hcond hne hcode
  · rw [exec_ldrex, if_pos (by simp [hrt, hrn]), gated_true _ _ _ hcond, ← haddr, memReadX_refused hcode hne]
    exact faultsUntouched_called s _ code
  · rw [exec_strex, if_pos (by simp [hrd, hrt, hrn, hdn, hdt]), gated_true _ _ _ hcond, ← haddr, memWriteX_refused hcode hne]
    exact faultsUntouched_called s _ code
  · rw [exec_ldrd, hlegal, hoff, Bool.and_self, if_pos rfl, loadDouble, ← haddr]
    exact ⟨loadDoubleSteps_refused_first hcond hne, loadDoubleSteps_refused_second hcond hne⟩
  · rw [exec_ldrdLiteral, if_pos (by rw [heven]; simp [h14, writesBack]), hliteral, ← haddr]
    exact ⟨loadDoubleSteps_refused_first hcond hne, loadDoubleSteps_refused_second hcond hne⟩
  · obtain ⟨⟨heven, h14⟩, _⟩ := doubleLegal_iff.1 hlegal
    obtain ⟨_, hrt1⟩ := pair_ne_pc rt heven h14
    rw [exec_strd, hlegal, hoff, Bool.and_self, if_pos rfl, storeDouble, ← haddr]
    exact ⟨storeDoubleSteps_refused_first hcond hne, fun hmem => storeDoubleSteps_refused_second hrt1 hmem hcond hne⟩

end Sys2Proof.Machine
end

/-! ## Proofs: the block transfers (R290 to R305) and their forms for the hypercalls (R381 to R386) -/

section
/-! The words of a block, read or written: what each form of LDM and STM does after its refusals. -/

namespace Sys2Proof.Machine

/-! ### The length of a block -/

theorem bitcount_of_pc_unlisted {l : BitVec 16} (hpc : l.getLsbD 15 = false) : bitcount l = (listedRegisters l).length := by
  have hindex : List.range 15 = lowRegisters.map BitVec.toNat := by decide
  rw [bitcount, bitcountBelow, if_neg (Bool.eq_false_iff.1 hpc), bitcountBelow_eq_length_filter, hindex, List.filter_map, List.length_map]
  rfl

theorem bitcount_eq (l : BitVec 16) : bitcount l = (listedRegisters l).length + (l.getLsbD 15).toNat := by
  cases hpc : l.getLsbD 15 with
  | true => exact bitcount_of_pc_listed hpc
  | false => exact bitcount_of_pc_unlisted hpc

theorem blockValues_length (m : Mode) (l : BitVec 16) (s : State) : (blockValues m l s).length = bitcount l := by
  rw [bitcount_eq, blockValues, List.length_append, List.length_map]
  cases l.getLsbD 15 <;> rfl

/-- A block is at most 64 bytes. -/
theorem block_length_le (l : BitVec 16) : 4 * bitcount l ≤ 2 ^ 32 := by
  have h := bitcount_le l
  omega

theorem readEvents_succ (a : Word) (k : Nat) : readEvents a (k + 1) = readEvents a k ++ [.read (wordAddr a k) .word false] := by
  simp [readEvents, List.range_succ]

/-! ### Reading a block -/

/-- The reads of LDM: the listed registers, and with bit 15 one more word, which is the answer. -/
def readBlock (m : Mode) (l : BitVec 16) (start : Word) (s : State) : PortResult Word :=
  (loadRegisters m (listedRegisters l) start (s.emitRange start l)).andThen fun addr s1 =>
    if l.getLsbD 15 then memRead s1 addr .word false else .ok 0#32 s1

/-- The state after the port has given every word of the block. -/
def State.loadedBlock (s : State) (m : Mode) (l : BitVec 16) (start : Word) : State :=
  if l.getLsbD 15 then
    (State.loadedRegisters m (listedRegisters l) start (s.emitRange start l)).called
      (.read (wordAddr start (listedRegisters l).length) .word false)
  else State.loadedRegisters m (listedRegisters l) start (s.emitRange start l)

section
variable (m : Mode) (l : BitVec 16) (start : Word) (s : State)

theorem evolves_loadedFrom (ns : List RegIdx) : Evolves s (State.loadedRegisters m ns start (s.emitRange start l)) :=
  (evolves_emitRange s start l).trans (evolves_loadedRegisters m ns start _)

theorem events_loadedFrom (ns : List RegIdx) : (State.loadedRegisters m ns start (s.emitRange start l)).events =
    s.events ++ (rangeEvents s.ttblMinPageSize start (4 * bitcount l) ++ readEvents start ns.length) := by
  rw [State.loadedRegisters_events, State.emitRange_events, List.append_assoc]
  rfl

theorem evolves_loadedBlock : Evolves s (s.loadedBlock m l start) := by
  unfold State.loadedBlock
  split
  · exact (evolves_loadedFrom m l start s _).trans (evolves_called _ _)
  · exact evolves_loadedFrom m l start s _

theorem loadedBlock_mem : (s.loadedBlock m l start).mem = s.mem := by
  have h := State.loadedRegisters_mem m (listedRegisters l) start (s.emitRange start l)
  unfold State.loadedBlock
  split <;> exact h

theorem loadedBlock_coprocs : (s.loadedBlock m l start).coprocs = s.coprocs := by
  have h := State.loadedRegisters_coprocs m (listedRegisters l) start (s.emitRange start l)
  unfold State.loadedBlock
  split <;> exact h

theorem loadedBlock_events : (s.loadedBlock m l start).events =
    s.events ++ rangeEvents s.ttblMinPageSize start (4 * bitcount l) ++ readEvents start (bitcount l) := by
  have h := events_loadedFrom m l start s (listedRegisters l)
  rw [← List.append_assoc] at h
  unfold State.loadedBlock
  split
  · next hpc => rw [State.called_events, h, bitcount_of_pc_listed hpc, readEvents_succ, List.append_assoc]
  · next hpc => rw [h, bitcount_of_pc_unlisted (Bool.eq_false_iff.2 hpc)]

theorem sameRegsBut_loadedBlock : SameRegsBut ((listedRegisters l).filterMap (bank m)) s (s.loadedBlock m l start) := by
  have h := sameRegsBut_loadedRegisters m (listedRegisters l) start (s.emitRange start l)
  unfold State.loadedBlock
  split <;> exact h

end

theorem listed_ne_pc {l : BitVec 16} {k : Nat} {n : RegIdx} (h : (listedRegisters l)[k]? = some n) : n ≠ 15#4 :=
  fun e => pc_not_listed l (e ▸ List.mem_of_getElem? h)

theorem loadedBlock_xm (m : Mode) {l : BitVec 16} {start : Word} {s : State} (hport : PlainMemory s) {k : Nat} {n : RegIdx}
    (hn : (listedRegisters l)[k]? = some n) : (s.loadedBlock m l start).xm m n = s.mem.read32 (start + BitVec.ofNat 32 (4 * k)) := by
  have hplain : PlainMemory (s.emitRange start l) := hport
  have h := (loadedRegisters_xm (m := m) (a := start) (s := s.emitRange start l) (listedRegisters_nodup l) (pc_not_listed l) hn).trans
    (hplain.laterPortData k _ false)
  refine Eq.trans ?_ h
  unfold State.loadedBlock
  split
  · exact State.xm_congr rfl (listed_ne_pc hn)
  · rfl

/-- Every word of the block is read. -/
theorem readBlock_ok (m : Mode) (l : BitVec 16) (start : Word) {s : State} (hport : PlainMemory s) : ∃ v, readBlock m l start s =
    .ok v (s.loadedBlock m l start) ∧ (l.getLsbD 15 = true → v = s.mem.read32 (start + BitVec.ofNat 32 (4 * (listedRegisters l).length))) := by
  have hplain : PlainMemory (s.emitRange start l) := hport
  rw [readBlock, loadRegisters_ok m (listedRegisters l) start _ fun j _ => hplain.laterPortCode j _, State.loadedBlock]
  cases hpc : l.getLsbD 15 with
  | false => exact ⟨0#32, rfl, by simp⟩
  | true =>
    have hkeeps := evolves_loadedFrom m l start s (listedRegisters l)
    have hend : PlainMemory (State.loadedRegisters m (listedRegisters l) start (s.emitRange start l)) := by
      obtain ⟨d, hd⟩ := hport
      exact ⟨d, hkeeps.port.trans hd⟩
    rw [PortResult.andThen, if_pos rfl, if_pos rfl, memRead_ok (hend.portCode _)]
    refine ⟨_, rfl, fun _ => ?_⟩
    refine (hend.laterPortData 0 _ false).trans ?_
    rw [State.loadedRegisters_mem]
    rfl

/-- A refused word ends the reads. -/
theorem readBlock_refused (m : Mode) {l : BitVec 16} {start : Word} {s : State} {k code : Nat} (hk : k < bitcount l)
    (h : ReadFails id start k code s) : readBlock m l start s =
      .err code ((State.loadedRegisters m ((listedRegisters l).take k) start (s.emitRange start l)).called
        (.read (wordAddr start k) .word false)) := by
  by_cases hlow : k < (listedRegisters l).length
  · rw [readBlock, loadRegisters_refused m (listedRegisters l) start (s.emitRange start l) hlow h]
    rfl
  · have hpc : l.getLsbD 15 = true := by
      by_contra hpc
      rw [bitcount_of_pc_unlisted (Bool.eq_false_iff.2 hpc)] at hk
      exact hlow hk
    obtain rfl : k = (listedRegisters l).length := by
      rw [bitcount_of_pc_listed hpc] at hk
      omega
    obtain ⟨hne, hbefore, hat⟩ := h
    have hkeeps := evolves_loadedFrom m l start s (listedRegisters l)
    have hcode : (State.loadedRegisters m (listedRegisters l) start (s.emitRange start l)).portCode
        ((State.loadedRegisters m (listedRegisters l) start (s.emitRange start l)).readAccess
          (wordAddr start (listedRegisters l).length) .word false) = code := by
      rw [← laterPortCode_zero, State.readAccess_congr hkeeps.mode, ← hat]
      exact laterPortCode_congr (j := 0) hkeeps.port (State.loadedRegisters_envTick m (listedRegisters l) start (s.emitRange start l)) _
    rw [readBlock, loadRegisters_ok m (listedRegisters l) start (s.emitRange start l) hbefore, PortResult.andThen, if_pos hpc,
      memRead_refused hcode hne, List.take_length]

theorem Evolves.faultsAfter {made : List Event} {s t : State} (h : Evolves s t) (hevents : t.events = s.events ++ made) (e : Event)
    (code : Nat) :
    FaultsAfter code (made ++ [e]) s { t.called e with result := some (.guestFault code) } where
  pc := h.pc
  status := h.sameStatus
  halted := h.halted
  env := h.sameEnvironment
  events := by
    show (t.called e).events = _
    rw [State.called_events, hevents, List.append_assoc]
  result := rfl

/-- What a refused word of a block leaves (R295, D14). -/
theorem readBlock_fault (m : Mode) {l : BitVec 16} {start : Word} {s : State} {k code : Nat} (hk : k < bitcount l)
    (h : ReadFails id start k code s) (work : Word → State → Out) : ∃ t, (readBlock m l start s).orFault work = .next t ∧
      FaultsAfter code (rangeEvents s.ttblMinPageSize start (4 * bitcount l) ++ readEvents start (k + 1)) s t ∧
      LoadedUpTo m (listedRegisters l) start k s t := by
  have hlen : ((listedRegisters l).take k).length = k := by
    rw [List.length_take, Nat.min_eq_left]
    have hle := bitcount_eq l
    have hbit : (l.getLsbD 15).toNat ≤ 1 := Bool.toNat_le _
    omega
  have hevents := events_loadedFrom m l start s ((listedRegisters l).take k)
  rw [hlen] at hevents
  rw [readBlock_refused m hk h, readEvents_succ, ← List.append_assoc]
  obtain ⟨hloaded, hothers, hmem, hcops⟩ := loadedUpTo (s := s.emitRange start l) (m := m) (a := start) (listedRegisters_nodup l)
    (pc_not_listed l) k
    (.read (wordAddr start k) .word false) code
  exact ⟨_, rfl, (evolves_loadedFrom m l start s _).faultsAfter hevents _ code, hloaded, hothers, hmem, hcops⟩

/-! ### LDM -/

theorem loadMultiple_eq (p u w : Bool) (rn : RegIdx) (l : BitVec 16) (s : State) : loadMultiple p u w rn l s =
    (readBlock s.mode l (blockStart p u (s.x rn) (blockLengthWord l)) s).orFault fun newpc s2 =>
      if l.getLsbD 15 then branchTo (s2.writeBack w rn (blockWriteBack u (s.x rn) (blockLengthWord l))) newpc
      else advance (s2.writeBack w rn (blockWriteBack u (s.x rn) (blockLengthWord l))) := by
  rw [loadMultiple, readBlock]
  cases loadRegisters s.mode (listedRegisters l) (blockStart p u (s.x rn) (blockLengthWord l))
      (s.emitRange (blockStart p u (s.x rn) (blockLengthWord l)) l) with
  | err code s1 => rfl
  | ok addr s1 =>
    rw [show inList l 15#4 = l.getLsbD 15 from rfl]
    cases l.getLsbD 15 <;> rfl

theorem exec_ldm_eq (a : BlockMode) {cond : Cond} {w : Bool} {rn : RegIdx} {l : BitVec 16} {s : State} (hrn : rn ≠ 15#4) (hl : l ≠ 0#16)
    (hw : (w && l.getLsbD rn.toNat) = false) (hcond : condPassed cond s.cpsr = true) :
    exec (a.ldm cond w rn l) s = loadMultiple a.p a.u w rn l s := by
  rw [exec_ldm, ldm, refusing_of_false _ _ _ (by simpa [ldmRefusals, hrn, hl, inList] using hw), gated_true _ _ _ hcond]

/-- A base that is written back is not in the list. -/
theorem listed_ne_base {w : Bool} {rn n : RegIdx} {l : BitVec 16} (hw : (w && l.getLsbD rn.toNat) = false) {k : Nat}
    (hn : (listedRegisters l)[k]? = some n) (h : w = true) : n ≠ rn := by
  rintro rfl
  have hbit := ((mem_listedRegisters l n).1 (List.mem_of_getElem? hn)).2
  rw [h, hbit] at hw
  cases hw

/-- The registers a block and its write-back may have changed. -/
theorem SameRegsBut.writeBackBlock {l : List RegIdx} {s t : State} (h : SameRegsBut (banked s l) s t) (hm : t.mode = s.mode) (w : Bool)
    (rn : RegIdx) (v : Word) : SameRegsBut (banked s (if w then rn :: l else l)) s (t.writeBack w rn v) := by
  cases w with
  | false => exact h
  | true =>
    refine (h.setX hm rn v).mono fun p hp => ?_
    simp only [banked, List.mem_filterMap, List.mem_append, List.mem_singleton] at hp
    obtain ⟨n, hn, hbank⟩ := hp
    exact List.mem_filterMap.2 ⟨n, by simpa [or_comm] using hn, hbank⟩

/-- Settles O41. -/
theorem loadMultipleResult : Obligations.LoadMultipleResult := by
  refine ⟨fun a cond w rn l s start hport hrn hl hw hcond hstart => ?_,
    fun a cond w rn l s start k code hrn hl hw hcond hstart hk hfails => ?_⟩
  · obtain ⟨v, hread, hv⟩ := readBlock_ok s.mode l start hport
    rw [exec_ldm_eq a hrn hl hw hcond, loadMultiple_eq, blockStart_eq_first, ← show start = a.first (s.x rn)
      (blockLengthWord l) from hstart, hread,
      blockWriteBack_eq]
    have hkeeps := (evolves_loadedBlock s.mode l start s).trans (evolves_writeBack _ w rn (a.writeBack (s.x rn) (blockLengthWord l)))
    have hmode : (s.loadedBlock s.mode l start).mode = s.mode := (evolves_loadedBlock s.mode l start s).mode
    have hend : (PortResult.ok v (s.loadedBlock s.mode l start)).orFault (fun newpc s2 =>
        if l.getLsbD 15 then branchTo (s2.writeBack w rn (a.writeBack (s.x rn) (blockLengthWord l))) newpc
        else advance (s2.writeBack w rn (a.writeBack (s.x rn) (blockLengthWord l)))) =
        .next (((s.loadedBlock s.mode l start).writeBack w rn (a.writeBack (s.x rn) (blockLengthWord l))).ended
          (if l.getLsbD 15 then s.mem.read32 (start + BitVec.ofNat 32 (4 * (listedRegisters l).length)) else s.pc + 4#32)) := by
      cases hpc : l.getLsbD 15 with
      | true => rw [← hv hpc]; rfl
      | false => exact hkeeps.advance
    refine ⟨_, hend, hkeeps.okAt _, fun k n hn => ?_, fun h => ?_, ?_, hkeeps.sameStatus, .of_mem ?_, ?_, ?_⟩
    · have h15 := listed_ne_pc hn
      rw [State.x_ended _ _ h15, State.x_writeBack_ne _ _ (listed_ne_base hw hn) h15, State.x_eq_xm hmode]
      exact loadedBlock_xm s.mode hport hn
    · rw [State.x_ended _ _ hrn, State.x_writeBack_self _ _ h hrn]
      rfl
    · exact (sameRegsBut_loadedBlock s.mode l start s).writeBackBlock (s := s) hmode w rn _
    · rw [State.ended_mem, State.writeBack_mem, loadedBlock_mem]
    · rw [SameCoprocs, State.ended_coprocs, State.writeBack_coprocs, loadedBlock_coprocs]
    · rw [State.ended_events, State.writeBack_events, loadedBlock_events]
  · rw [exec_ldm_eq a hrn hl hw hcond, loadMultiple_eq, blockStart_eq_first, ← show start = a.first (s.x rn)
      (blockLengthWord l) from hstart]
    exact readBlock_fault s.mode hk hfails _

/-! ### STM -/

theorem storeMultiple_eq (p u w : Bool) (rn : RegIdx) (l : BitVec 16) (s : State) : storeMultiple p u w rn l s =
    (storeWords (blockValues s.mode l s) (blockStart p u (s.x rn) (blockLengthWord l))
      (s.emitRange (blockStart p u (s.x rn) (blockLengthWord l)) l)).orFault fun _ s2 =>
      advance (s2.writeBack w rn (blockWriteBack u (s.x rn) (blockLengthWord l))) := by
  rw [storeMultiple, storeBlock_eq]
  rfl

/-- The state after the port has accepted every word of the block. -/
def State.storedBlock (s : State) (m : Mode) (l : BitVec 16) (start : Word) : State :=
  (s.emitRange start l).storedWords start (blockValues m l s)

section
variable (m : Mode) (l : BitVec 16) (start : Word) (s : State)

theorem evolves_storedBlock : Evolves s (s.storedBlock m l start) := (evolves_emitRange s start l).trans (evolves_storedWords _ _ _)

theorem storedBlock_mem : (s.storedBlock m l start).mem = s.mem.writeWords start (blockValues m l s) := State.storedWords_mem ..

theorem storedBlock_coprocs : (s.storedBlock m l start).coprocs = s.coprocs := State.storedWords_coprocs ..

theorem storedBlock_regs : (s.storedBlock m l start).regs = s.regs := State.storedWords_regs ..

theorem storedBlock_events : (s.storedBlock m l start).events =
    s.events ++ rangeEvents s.ttblMinPageSize start (4 * bitcount l) ++ writeEvents start (blockValues m l s) := State.storedWords_events ..

theorem storeBlock_ok (hport : PlainMemory s) :
    storeWords (blockValues m l s) start (s.emitRange start l) = .ok () (s.storedBlock m l start) := by
  have hplain : PlainMemory (s.emitRange start l) := hport
  exact storeWords_ok _ start _ fun j v _ => hplain.laterPortCode j _

theorem storedBlock_outside : SameMemoryOutside start (4 * bitcount l) s (s.storedBlock m l start) := by
  intro b hb
  rw [storedBlock_mem]
  exact s.mem.read8_writeWords_ne (by rw [blockValues_length]; exact block_length_le l) (by rwa [blockValues_length])

variable {m l start s}

theorem storedBlock_read32 (hmem : s.mem.wf = true) {k : Nat} {v : Word} (hv : (blockValues m l s)[k]? = some v) :
    (s.storedBlock m l start).mem.read32 (start + BitVec.ofNat 32 (4 * k)) = v := by
  rw [storedBlock_mem]
  exact Memory.read32_writeWords hmem (by rw [blockValues_length]; exact block_length_le l) hv

theorem blockValues_listed {k : Nat} {n : RegIdx} (hn : (listedRegisters l)[k]? = some n) : (blockValues m l s)[k]? = some (s.xm m n) := by
  obtain ⟨hk, _⟩ := List.getElem?_eq_some_iff.1 hn
  rw [blockValues, List.getElem?_append_left (by rwa [List.length_map]), List.getElem?_map, hn]
  rfl

theorem blockValues_pc (hpc : l.getLsbD 15 = true) : (blockValues m l s)[(listedRegisters l).length]? = some (s.pc + 8#32) := by
  rw [blockValues, if_pos hpc, List.getElem?_append_right (by rw [List.length_map]), List.length_map, Nat.sub_self]
  rfl

end

/-- What a refused word of a store leaves (R295, D14). -/
theorem storeWords_fault {s : State} (hmem : s.mem.wf = true) {a : Word} {values : List Word} (hlen : 4 * values.length ≤ 2 ^ 32) {k code : Nat}
    (h : WriteFails id a values k code s) (work : Unit → State → Out) : ∃ t, (storeWords values a s).orFault work = .next t ∧
      FaultsAfter code (writeEvents a (values.take (k + 1))) s t ∧ StoredUpTo a values k s t := by
  obtain ⟨v, hv, hrefused⟩ := storeWords_refused s a values h
  have hk : (values.take k).length = k := by rw [List.length_take, Nat.min_eq_left h.2.1.le]
  have htake : values.take (k + 1) = values.take k ++ [v] := by rw [List.take_add_one, hv, Option.toList_some]
  rw [hrefused, htake, writeEvents_concat, hk]
  exact ⟨_, rfl, (evolves_storedWords s a _).faultsAfter (State.storedWords_events ..) _ code, storedUpTo hmem a h.2.1 hlen _ code⟩

theorem storeBlock_fault {s : State} (hmem : s.mem.wf = true) (m : Mode) {l : BitVec 16} {start : Word} {k code : Nat}
    (h : WriteFails id start (blockValues m l s) k code s) (work : Unit → State → Out) : ∃ t,
      (storeWords (blockValues m l s) start (s.emitRange start l)).orFault work = .next t ∧
      FaultsAfter code (rangeEvents s.ttblMinPageSize start (4 * bitcount l) ++ writeEvents start ((blockValues m l s).take (k + 1))) s t ∧
      StoredUpTo start (blockValues m l s) k s t := by
  obtain ⟨t, ht, ⟨hpc, hstatus, hhalted, henv, hevents, hresult⟩, ⟨hstored, hothers, hregs, hcops⟩⟩ :=
    storeWords_fault (s := s.emitRange start l) hmem (by rw [blockValues_length]; exact block_length_le l) h work
  refine ⟨t, ht, ⟨hpc, hstatus, hhalted, henv, ?_, hresult⟩, ⟨hstored, hothers, hregs, hcops⟩⟩
  rw [hevents, ← List.append_assoc]
  rfl

theorem exec_stm_eq (a : BlockMode) {cond : Cond} {w : Bool} {rn : RegIdx} {l : BitVec 16} {s : State} (hrn : rn ≠ 15#4) (hl : l ≠ 0#16)
    (hcond : condPassed cond s.cpsr = true) {start : Word} (hstart : start = a.first (s.x rn) (BitVec.ofNat 32 (4 * bitcount l))) :
    exec (a.stm cond w rn l) s = (storeWords (blockValues s.mode l s) start (s.emitRange start l)).orFault fun _ s2 =>
      advance (s2.writeBack w rn (a.writeBack (s.x rn) (BitVec.ofNat 32 (4 * bitcount l)))) := by
  rw [exec_stm, stm_eq_storeMultiple a.p a.u w hrn hl hcond, storeMultiple_eq, blockStart_eq_first, blockWriteBack_eq,
    ← show start = a.first (s.x rn) (blockLengthWord l) from hstart]
  rfl

/-- Settles O42. -/
theorem storeMultipleResult : Obligations.StoreMultipleResult := by
  refine ⟨fun a cond w rn l s start hport hmem hrn hl hcond hstart => ?_,
    fun a cond w rn l s start k code hmem hrn hl hcond hstart hfails => ?_⟩
  · rw [exec_stm_eq a hrn hl hcond hstart, storeBlock_ok _ _ _ _ hport]
    have hkeeps := (evolves_storedBlock s.mode l start s).trans
      (evolves_writeBack _ w rn (a.writeBack (s.x rn) (BitVec.ofNat 32 (4 * bitcount l))))
    refine ⟨_, hkeeps.advance, hkeeps.okAt _, fun k n hn => ?_, fun b hb => ?_, fun h => ?_, ?_, hkeeps.sameStatus, ?_, ?_⟩
    · rw [State.ended_mem, State.writeBack_mem]
      exact storedBlock_read32 hmem (blockValues_listed hn)
    · rw [State.ended_mem, State.writeBack_mem]
      exact storedBlock_outside s.mode l start s b hb
    · rw [State.x_ended _ _ hrn, State.x_writeBack_self _ _ h hrn]
    · exact SameRegsBut.writeBack (ns := []) (s := s) (.of_regs (storedBlock_regs s.mode l start s))
        (evolves_storedBlock s.mode l start s).mode w rn _
    · rw [SameCoprocs, State.ended_coprocs, State.writeBack_coprocs, storedBlock_coprocs]
    · rw [State.ended_events, State.writeBack_events, storedBlock_events]
  · rw [exec_stm_eq a hrn hl hcond hstart]
    exact storeBlock_fault hmem s.mode hfails _

/-! ### The User bank -/

theorem listedRegisters_reads_user {l : BitVec 16} (hpc : l.getLsbD 15 = false) (start : Word) (s : State) (work : State → Out) :
    ((loadRegisters .usr (listedRegisters l) start (s.emitRange start l)).orFault fun _ s1 => work s1) =
      (readBlock .usr l start s).orFault fun _ s1 => work s1 := by
  rw [readBlock]
  cases loadRegisters .usr (listedRegisters l) start (s.emitRange start l) with
  | err code s1 => rfl
  | ok addr s1 =>
    rw [PortResult.andThen, if_neg (Bool.eq_false_iff.1 hpc)]
    rfl

theorem exec_ldmUser_eq (a : BlockMode) {cond : Cond} {rn : RegIdx} {l : BitVec 16} {s : State} (hpc : l.getLsbD 15 = false)
    (hm : hasSpsr s.mode = true) (hrn : rn ≠ 15#4) (hl : l ≠ 0#16) (hcond : condPassed cond s.cpsr = true) {start : Word}
    (hstart : start = a.first (s.x rn) (BitVec.ofNat 32 (4 * bitcount l))) :
    exec (.hypLdmUserRegisters cond a.p a.u false rn l) s = (readBlock .usr l start s).orFault fun _ s1 => advance s1 := by
  show execHypLdmUserRegisters cond a.p a.u false rn l s = _
  rw [execHypLdmUserRegisters, refusing_of_false _ _ _ (by simp [hm, hrn, hl]), gated_true _ _ _ hcond, blockStart_eq_first,
    ← show start = a.first (s.x rn) (blockLengthWord l) from hstart]
  exact listedRegisters_reads_user hpc start s advance

theorem exec_stmUser_eq (a : BlockMode) {cond : Cond} {rn : RegIdx} {l : BitVec 16} {s : State} (hrn : rn ≠ 15#4) (hl : l ≠ 0#16)
    (hcond : condPassed cond s.cpsr = true) {start : Word} (hstart : start = a.first (s.x rn) (BitVec.ofNat 32 (4 * bitcount l))) :
    exec (.hypStmUserRegisters cond a.p a.u rn l) s =
      (storeWords (blockValues .usr l s) start (s.emitRange start l)).orFault fun _ s2 => advance s2 := by
  show execHypStmUserRegisters cond a.p a.u rn l s = _
  rw [execHypStmUserRegisters, refusing_of_false _ _ _ (by simp [hrn, hl]), gated_true _ _ _ hcond, blockStart_eq_first,
    ← show start = a.first (s.x rn) (blockLengthWord l) from hstart]
  exact congrArg (fun r => r.orFault fun _ s2 => advance s2) (storeBlock_eq .usr l start (s.emitRange start l))

/-- Settles O57. -/
theorem userBankTransfers : Obligations.UserBankTransfers := by
  refine ⟨fun a cond rn l s start hpc hm hrn hl hcond hstart => ?_, fun a cond rn l s start hmem hrn hl hcond hstart => ?_⟩
  · rw [exec_ldmUser_eq a hpc hm hrn hl hcond hstart]
    refine ⟨fun hport => ?_, fun k code hk hfails => readBlock_fault .usr hk hfails _⟩
    obtain ⟨v, hread, _⟩ := readBlock_ok .usr l start hport
    have hkeeps := evolves_loadedBlock .usr l start s
    rw [hread]
    exact ⟨_, hkeeps.advance, hkeeps.okAt _, fun k n hn => (State.xm_ended _ _ _ (listed_ne_pc hn)).trans (loadedBlock_xm .usr hport hn),
      sameRegsBut_loadedBlock .usr l start s, hkeeps.sameStatus, .of_mem (loadedBlock_mem .usr l start s),
        loadedBlock_coprocs .usr l start s,
      loadedBlock_events .usr l start s⟩
  · rw [exec_stmUser_eq a hrn hl hcond hstart]
    refine ⟨fun hport => ?_, fun k code hfails => storeBlock_fault hmem .usr hfails _⟩
    have hkeeps := evolves_storedBlock .usr l start s
    rw [storeBlock_ok _ _ _ _ hport]
    exact ⟨_, hkeeps.advance, hkeeps.okAt _, fun k n hn => storedBlock_read32 hmem (blockValues_listed hn),
      fun hpc => storedBlock_read32 hmem (blockValues_pc hpc), storedBlock_outside .usr l start s,
        .of_regs (storedBlock_regs .usr l start s),
      hkeeps.sameStatus, storedBlock_coprocs .usr l start s, storedBlock_events .usr l start s⟩

/-! ### Returns from an exception -/

theorem exceptionReturn_eq (t : State) (saved newpc : Word) :
    exceptionReturn t saved newpc = .next (((t.emit .irqDeassert).withCpsr saved).ended newpc) := rfl

/-- After the return the registers of the mode it was made in still hold what the write-back left. -/
theorem State.xm_returned {s t : State} (hm : t.mode = s.mode) (w : Bool) (rn : RegIdx) (v : Word) (e : Event)
    (psr target : Word) {n : RegIdx}
    (hn : n ≠ 15#4) : ((((t.writeBack w rn v).emit e).withCpsr psr).ended target).xm s.mode n = (t.writeBack w rn v).x n := by
  rw [State.x_eq_xm ((t.mode_writeBack w rn v).trans hm)]
  exact State.xm_congr rfl hn

/-- Settles O58. -/
theorem subsPcResult : Obligations.SubsPcResult := by
  intro op cond rn o s saved hsaved hlegal hcond
  have hspsr : s.spsr? = some saved := hsaved
  rw [exec_subsPc, refusing_of_false _ _ _ (by simp [hspsr, hlegal]), gated_true _ _ _ hcond, hspsr, exceptionReturn_eq]
  exact ⟨_, rfl, (evolves_emit s _).okAt_withCpsr _ _, rfl, rfl, .of_regs rfl, .of_mem rfl, rfl, rfl⟩

theorem loadMultipleReturn_eq (a : BlockMode) (w : Bool) (rn : RegIdx) {l : BitVec 16} (saved : Word) {s : State} (hpc : l.getLsbD 15 = true)
    {start : Word} (hstart : start = a.first (s.x rn) (BitVec.ofNat 32 (4 * bitcount l))) : loadMultipleReturn a.p a.u w rn l saved s =
    (readBlock s.mode l start s).orFault fun newpc s2 =>
      exceptionReturn (s2.writeBack w rn (a.writeBack (s.x rn) (BitVec.ofNat 32 (4 * bitcount l)))) saved newpc := by
  rw [loadMultipleReturn, readBlock, blockStart_eq_first, blockWriteBack_eq, ← show start = a.first (s.x rn)
    (blockLengthWord l) from hstart]
  cases loadRegisters s.mode (listedRegisters l) start (s.emitRange start l) with
  | err code s1 => rfl
  | ok addr s1 =>
    rw [PortResult.andThen, if_pos hpc]
    rfl

/-- Settles O56. -/
theorem ldmExceptionReturnResult : Obligations.LdmExceptionReturnResult := by
  intro a cond w rn l saved s start hpc hsaved hlegal hrn hw hcond hstart
  have hspsr : s.spsr? = some saved := hsaved
  rw [exec_hypLdmExceptionReturn, refusing_of_false _ _ _ (by simpa [hspsr, hlegal, hrn, inList] using hw), gated_true _ _ _ hcond, hspsr,
    Option.getD_some, loadMultipleReturn_eq a w rn saved hpc hstart]
  refine ⟨fun hport => ?_, fun k code hk hfails => readBlock_fault s.mode hk hfails _⟩
  obtain ⟨v, hread, hv⟩ := readBlock_ok s.mode l start hport
  have hblock := evolves_loadedBlock s.mode l start s
  have hkeeps := (hblock.trans (evolves_writeBack _ w rn (a.writeBack (s.x rn) (BitVec.ofNat 32 (4 * bitcount l))))).trans
    (evolves_emit _ .irqDeassert)
  rw [hread, hv hpc]
  refine ⟨_, exceptionReturn_eq .., hkeeps.okAt_withCpsr _ _, rfl, hkeeps.spsr, fun k n hn => ?_, fun h => ?_, ?_, .of_mem ?_, ?_, ?_⟩
  · have h15 := listed_ne_pc hn
    rw [State.xm_returned hblock.mode _ _ _ _ _ _ h15, State.x_writeBack_ne _ _ (listed_ne_base hw hn) h15, State.x_eq_xm hblock.mode]
    exact loadedBlock_xm s.mode hport hn
  · rw [State.xm_returned hblock.mode _ _ _ _ _ _ hrn, State.x_writeBack_self _ _ h hrn]
  · exact (sameRegsBut_loadedBlock s.mode l start s).writeBackBlock (s := s) hblock.mode w rn _
  · rw [State.ended_mem, State.withCpsr_mem, State.emit_mem, State.writeBack_mem, loadedBlock_mem]
  · rw [SameCoprocs, State.ended_coprocs, State.withCpsr_coprocs, State.emit_coprocs, State.writeBack_coprocs, loadedBlock_coprocs]
  · rw [State.ended_events, State.withCpsr_events, State.emit_events, State.writeBack_events, loadedBlock_events]

end Sys2Proof.Machine
end

/-! ## Proofs: RFE, SRS and the hypercalls on the status registers (R353 to R358, R381, R382) -/

section
namespace Sys2Proof.Machine

theorem readEvents_one (a : Word) : readEvents a 1 = [.read a .word false] := by
  rw [readEvents_succ, wordAddr_zero]; rfl

theorem readEvents_two (a : Word) : readEvents a 2 = [.read a .word false, .read (a + 4#32) .word false] := by
  rw [readEvents_succ, readEvents_one]; rfl

/-! ### RFE -/

theorem exec_rfe_eq (a : BlockMode) {cond : Cond} (w : Bool) {rn : RegIdx} {s : State} (hm : s.mode ≠ .usr) (hrn : rn ≠ 15#4)
    (hcond : condPassed cond s.cpsr = true) {addr : Word} (haddr : addr = a.first (s.x rn) 8#32) :
    exec (.hypRfe cond a.p a.u w rn) s = (memRead s addr .word false).orFault fun newpc s1 =>
      (memRead s1 (addr + 4#32) .word false).orFault fun newcpsr s2 =>
        if legalMode newcpsr then exceptionReturn (s2.writeBack w rn (a.writeBack (s.x rn) 8#32)) newcpsr newpc else refuse s2 .illegalMode := by
  show execHypRfe cond a.p a.u w rn s = _
  rw [execHypRfe, refusing_of_false _ _ _ (by simp [hm, hrn]), gated_true _ _ _ hcond]
  dsimp only
  rw [blockStart_eq_first, blockWriteBack_eq, ← haddr]

/-- On the reference memory both words are read. -/
theorem exec_rfe_reads (a : BlockMode) {cond : Cond} (w : Bool) {rn : RegIdx} {s : State} (hm : s.mode ≠ .usr) (hrn : rn ≠ 15#4)
    (hcond : condPassed cond s.cpsr = true) {addr : Word} (haddr : addr = a.first (s.x rn) 8#32) (hport : PlainMemory s) :
    exec (.hypRfe cond a.p a.u w rn) s =
      if legalMode (s.mem.read32 (addr + 4#32)) then
        exceptionReturn (((s.called (.read addr .word false)).called (.read (addr + 4#32) .word false)).writeBack w rn (a.writeBack (s.x rn) 8#32))
          (s.mem.read32 (addr + 4#32)) (s.mem.read32 addr)
      else refuse ((s.called (.read addr .word false)).called (.read (addr + 4#32) .word false)) .illegalMode := by
  have hport1 : PlainMemory (s.called (.read addr .word false)) := hport
  have hlow : s.portData (s.readAccess addr .word false) = s.mem.read32 addr := hport.laterPortData 0 addr false
  have hhigh : (s.called (.read addr .word false)).portData ((s.called (.read addr .word false)).readAccess (addr + 4#32) .word false) =
      s.mem.read32 (addr + 4#32) := hport1.laterPortData 0 _ false
  rw [exec_rfe_eq a w hm hrn hcond haddr, memRead_ok (hport.portCode _), PortResult.orFault, memRead_ok (hport1.portCode _), hlow, hhigh]
  rfl

/-- Settles O54. -/
theorem rfeResult : Obligations.RfeResult := by
  intro a cond w rn s addr hm hrn hcond haddr
  have hreads : Evolves s ((s.called (.read addr .word false)).called (.read (addr + 4#32) .word false)) :=
    (evolves_called s _).trans (evolves_called _ _)
  refine ⟨fun hport hlegal => ?_, fun hport hillegal => ?_, fun k code hk hfails => ?_⟩
  · rw [exec_rfe_reads a w hm hrn hcond haddr hport, if_pos hlegal]
    have hkeeps := (hreads.trans (evolves_writeBack _ w rn (a.writeBack (s.x rn) 8#32))).trans (evolves_emit _ .irqDeassert)
    refine ⟨_, exceptionReturn_eq .., hkeeps.okAt_withCpsr _ _, rfl, fun h => ?_, ?_, hkeeps.spsr, .of_mem (by simp),
      by simp [SameCoprocs], by simp⟩
    · rw [State.xm_returned hreads.mode _ _ _ _ _ _ hrn, State.x_writeBack_self _ _ h hrn]
    · exact SameRegsBut.writeBack (ns := []) (s := s) (t := (s.called _).called _) (.of_regs rfl) rfl w rn _
  · rw [exec_rfe_reads a w hm hrn hcond haddr hport, if_neg (Bool.eq_false_iff.1 hillegal)]
    exact ⟨_, rfl, ⟨rfl, rfl, rfl, rfl, rfl, rfl, rfl, rfl, rfl, rfl⟩, rfl, by simp, _, rfl⟩
  · obtain ⟨hne, hbefore, hat⟩ := hfails
    rw [exec_rfe_eq a w hm hrn hcond haddr]
    obtain rfl | rfl : k = 0 ∨ k = 1 := by omega
    · rw [wordAddr_zero] at hat
      have hcode : s.portCode (s.readAccess addr .word false) = code := hat
      rw [memRead_refused hcode hne, readEvents_one]
      exact faultsUntouched_called s _ code
    · have hfirst : s.portCode (s.readAccess addr .word false) = 0 := by
        rw [← laterPortCode_zero, ← wordAddr_zero addr]
        exact hbefore 0 Nat.one_pos
      have hsecond : (s.called (.read addr .word false)).portCode ((s.called (.read addr .word false)).readAccess (addr + 4#32) .word false) =
          code := hat
      rw [memRead_ok hfirst, PortResult.orFault, memRead_refused hsecond hne, readEvents_two]
      exact ⟨_, rfl, ⟨rfl, rfl, rfl, rfl, rfl, rfl, rfl, rfl, rfl, rfl⟩, rfl, by simp, rfl⟩

/-! ### SRS -/

/-- Settles O55. -/
theorem srsResult : Obligations.SrsResult := by
  intro a cond w mode m saved s addr hmem hsaved hmode hcond haddr
  have hspsr : s.spsr? = some saved := hsaved
  have hexec : exec (.hypSrs cond a.p a.u w mode) s = (storeWords [s.x 14#4, saved] addr s).orFault fun _ s2 =>
      advance (if w then s2.setXm m 13#4 (a.writeBack (s.xm m 13#4) 8#32) else s2) := by
    rw [exec_hypSrs, refusing_of_false _ _ _ (by simp [hspsr, hmode]), gated_true _ _ _ hcond, hspsr, hmode, srsSteps, Option.getD_some,
      Option.getD_some, blockStart_eq_first, blockWriteBack_eq, ← haddr,
      ← memWrite_andThen_memWrite s addr (s.x 14#4) (fun _ => saved) fun _ _ _ => rfl]
  rw [hexec]
  refine ⟨fun hport => ?_, fun k code hfails => storeWords_fault hmem (by simp) hfails _⟩
  rw [storeWords_ok s addr _ fun j v _ => hport.laterPortCode j _]
  obtain ⟨hlow, hhigh, houtside⟩ := Memory.writeWords_two hmem addr (s.x 14#4) saved
  have hstored := evolves_storedWords s addr [s.x 14#4, saved]
  have hmemory := State.storedWords_mem s addr [s.x 14#4, saved]
  have hevents := State.storedWords_events s addr [s.x 14#4, saved]
  have hregs : SameRegsBut ([].filterMap (bank m)) s (s.storedWords addr [s.x 14#4, saved]) := .of_regs (State.storedWords_regs ..)
  rw [writeEvents_two] at hevents
  rw [← hmemory] at hlow hhigh houtside
  cases w with
  | false =>
    exact ⟨_, hstored.advance, hstored.okAt _, hlow, hhigh, houtside, by simp, hregs, hstored.sameStatus, State.storedWords_coprocs ..,
      hevents⟩
  | true =>
    have hkeeps := hstored.trans (evolves_setXm _ m 13#4 (a.writeBack (s.xm m 13#4) 8#32))
    refine ⟨_, hkeeps.advance, hkeeps.okAt _, ?_, ?_, fun b hb => ?_, fun _ => ?_, hregs.setXm 13#4 _, hkeeps.sameStatus, ?_, ?_⟩
    · rw [State.ended_mem, State.setXm_mem]
      exact hlow
    · rw [State.ended_mem, State.setXm_mem]
      exact hhigh
    · rw [State.ended_mem, State.setXm_mem]
      exact houtside b hb
    · rw [State.xm_ended _ _ _ (by decide), State.xm_setXm_self _ _ _ (by decide)]
    · rw [SameCoprocs, State.ended_coprocs, State.setXm_coprocs, State.storedWords_coprocs]
    · rw [State.ended_events, State.setXm_events, hevents]

end Sys2Proof.Machine
end

/-! ## Proofs: CPS, MRS, MSR and WFI (R353 to R358) -/

section
namespace Sys2Proof.Machine

/-- Settles O53. -/
theorem wfiResult : Obligations.WfiResult := by
  intro cond s hcond
  have hexec : exec (.hypWfi cond) s = advance (s.emit .irqWait) := gated_true _ _ _ hcond
  have hkeeps := evolves_emit s .irqWait
  exact ⟨_, hexec.trans hkeeps.advance, hkeeps.okAt _, .of_regs rfl, ⟨rfl, rfl⟩, .of_mem rfl, rfl, rfl⟩

/-- Settles O51. -/
theorem mrsResult : Obligations.MrsResult := by
  intro cond r rd s v hrd hcond hv
  have hpsr : s.psr? r = some v := hv
  have hkeeps := evolves_setX s rd v
  rw [exec_hypMrs, refusing_of_false _ _ _ (by simp [hrd, hpsr]), gated_true _ _ _ hcond, hpsr, Option.getD_some]
  exact ⟨_, hkeeps.advance, hkeeps.okAt _, (State.x_ended _ _ hrd).trans (s.x_setX_self v hrd), sameRegsBut_setX s rd v, hkeeps.sameStatus,
    .of_mem (by simp), by simp [SameCoprocs], by simp⟩

/-! ### MSR -/

/-- A byte of the mask selects its eight bits (R357). -/
theorem getLsbD_byteMask (mask : BitVec 4) : ∀ k, k < 32 → (byteMask mask).getLsbD k = mask.getLsbD (k / 8) := by
  revert mask
  decide

theorem getLsbD_userWriteMask : ∀ k, k < 32 → userWriteMask.getLsbD k = (decide (27 ≤ k) || decide (16 ≤ k ∧ k ≤ 19)) := by decide

theorem State.spsrOf_setSpsrOf_self (s : State) {m : Mode} {old : Word} (h : s.spsrOf m = some old) (v : Word) :
    (s.setSpsrOf m v).spsrOf m = some v := by
  cases m with
  | usr | sys => cases h
  | fiq | irq | svc | abt | und => rfl

theorem State.spsrOf_setSpsrOf_ne (s : State) {m k : Mode} (h : k ≠ m) (v : Word) : (s.setSpsrOf m v).spsrOf k = s.spsrOf k := by
  cases m <;> cases k <;> try rfl
  all_goals exact absurd rfl h

theorem okAt_setSpsrOf (s : State) (m : Mode) (v target : Word) : OkAt target s ((s.setSpsrOf m v).ended target) := by
  cases m <;> exact ⟨rfl, rfl, rfl, rfl, rfl, rfl, rfl⟩

/-- The end of an instruction that writes the CPSR: the merged value, or the refusal of its mode (R33). -/
theorem cpsrWrite_eq (s : State) {value mask new : Word}
    (hnew : new = mergeBits s.cpsr value (if s.mode = .usr then mask &&& userWriteMask else mask)) :
    cpsrWrite s value mask = if legalMode new then .next ((s.withCpsr new).ended (s.pc + 4#32)) else refuse s .illegalMode := by
  have hupdate : s.cpsrUpdate value mask = if legalMode new then some (s.withCpsr new) else none := by rw [hnew]; rfl
  rw [cpsrWrite, hupdate]
  cases legalMode new <;> rfl

/-- Settles O52: the merged bits, of the SPSR and of the CPSR. -/
theorem msrResult : Obligations.MsrResult := by
  intro cond mask src s hlegal hcond
  refine ⟨fun old hold => ?_, fun new hnew => ?_⟩
  · have hpsr : s.psr? true = some old := hold
    rw [exec_hypMsr, refusing_of_false _ _ _ (by simp [hlegal, hpsr]), gated_true _ _ _ hcond, hpsr, Option.getD_some, psrWrite, if_pos rfl]
    rw [advance_eq, State.setSpsrOf_pc]
    exact ⟨_, _, rfl, okAt_setSpsrOf s s.mode _ _, s.spsrOf_setSpsrOf_self hold _,
      fun k hk => by rw [getLsbD_mergeBits _ _ _ hk, getLsbD_byteMask mask k hk], fun m hm => s.spsrOf_setSpsrOf_ne hm _, by simp,
      .of_regs (by simp), .of_mem (by simp), by simp [SameCoprocs], by simp⟩
  · have hmerged : new = mergeBits s.cpsr (src.value s) (if s.mode = .usr then byteMask mask &&& userWriteMask else byteMask mask) := by
      refine BitVec.eq_of_getLsbD_eq fun k hk => ?_
      rw [hnew k hk, getLsbD_mergeBits _ _ _ hk]
      by_cases hm : s.mode = .usr
      · rw [if_pos hm, BitVec.getLsbD_and, getLsbD_byteMask mask k hk, getLsbD_userWriteMask k hk]
        simp only [hm, ne_eq, not_true_eq_false, decide_false, Bool.false_or]
      · rw [if_neg hm, getLsbD_byteMask mask k hk]
        simp only [hm, ne_eq, not_false_eq_true, decide_true, Bool.true_or, Bool.and_true]
    have hexec : exec (src.instr cond false mask) s =
        if legalMode new then .next ((s.withCpsr new).ended (s.pc + 4#32)) else refuse s .illegalMode := by
      rw [exec_hypMsr, refusing_of_false _ _ _ (by simp [hlegal, State.psr?]), gated_true _ _ _ hcond]
      exact cpsrWrite_eq s hmerged
    refine ⟨fun h => ?_, fun h => ?_⟩
    · rw [hexec, if_pos h]
      exact ⟨_, rfl, (Evolves.refl s).okAt_withCpsr _ _, rfl, rfl, .of_regs rfl, .of_mem rfl, rfl, rfl⟩
    · rw [Refused, hexec, if_neg (Bool.eq_false_iff.1 h)]
      exact ⟨_, rfl, ⟨rfl, rfl, rfl, rfl, rfl, rfl, rfl, rfl, rfl, rfl⟩, rfl, by simp, _, rfl⟩

/-! ### CPS -/

theorem getLsbD_cpsSelect (a i f : Bool) : ∀ k, k < 32 →
    (cpsSelect a i f).getLsbD k = (decide (k = 8) && a || decide (k = 7) && i || decide (k = 6) && f) := by
  revert a i f
  decide

/-- The masks of CPS: a selected bit is cleared or set as `imod` says. -/
theorem getLsbD_cpsMasks (cpsr sel : Word) (imod : BitVec 2) {k : Nat} (hk : k < 32) :
    (cpsMasks cpsr sel imod).getLsbD k = if sel.getLsbD k && imod.getLsbD 1 then imod.getLsbD 0 else cpsr.getLsbD k := by
  obtain rfl | rfl | rfl | rfl : imod = 0#2 ∨ imod = 1#2 ∨ imod = 2#2 ∨ imod = 3#2 := by revert imod; decide
  · show cpsr.getLsbD k = _
    cases sel.getLsbD k <;> rfl
  · show cpsr.getLsbD k = _
    cases sel.getLsbD k <;> rfl
  · show (cpsr &&& ~~~sel).getLsbD k = _
    rw [BitVec.getLsbD_and, BitVec.getLsbD_not, decide_eq_true hk]
    cases sel.getLsbD k
    · exact Bool.and_true _
    · exact Bool.and_false _
  · show (cpsr ||| sel).getLsbD k = _
    rw [BitVec.getLsbD_or]
    cases sel.getLsbD k
    · exact Bool.or_false _
    · exact Bool.or_true _

/-- The merged CPSR of CPS, bit by bit: the mode, the selected masks, and every other bit as before. -/
theorem getLsbD_cps (cpsr sel : Word) (imod : BitVec 2) (m : Bool) (mode : BitVec 5) {k : Nat} (hk : k < 32) :
    (mergeBits cpsr (cpsValue cpsr sel imod m mode).1 (cpsValue cpsr sel imod m mode).2).getLsbD k =
      if m && decide (k < 5) then mode.getLsbD k
      else if sel.getLsbD k && imod.getLsbD 1 then imod.getLsbD 0 else cpsr.getLsbD k := by
  have hmask : ∀ j, j < 32 → (0x1F#32 : Word).getLsbD j = decide (j < 5) := by decide
  have hsel : (if imod.getLsbD 1 then sel else 0#32 : Word).getLsbD k = (sel.getLsbD k && imod.getLsbD 1) := by
    cases imod.getLsbD 1
    · rw [Bool.and_false]; exact BitVec.getLsbD_zero
    · rw [Bool.and_true]; rfl
  rw [getLsbD_mergeBits _ _ _ hk, cpsValue]
  cases m with
  | false =>
    show (if (if imod.getLsbD 1 then sel else 0#32 : Word).getLsbD k = true then (cpsMasks cpsr sel imod).getLsbD k else cpsr.getLsbD k) = _
    rw [hsel, getLsbD_cpsMasks _ _ _ hk]
    cases sel.getLsbD k && imod.getLsbD 1 <;> rfl
  | true =>
    show (if ((if imod.getLsbD 1 then sel else 0#32 : Word) ||| 0x1F#32).getLsbD k = true then
      ((cpsMasks cpsr sel imod &&& ~~~0x1F#32) ||| mode.setWidth 32).getLsbD k else cpsr.getLsbD k) = _
    rw [BitVec.getLsbD_or, BitVec.getLsbD_or, BitVec.getLsbD_and, BitVec.getLsbD_not, BitVec.getLsbD_setWidth, hsel, hmask k hk,
      getLsbD_cpsMasks _ _ _ hk, decide_eq_true hk]
    by_cases h5 : k < 5
    · simp [h5]
    · have hmode : mode.getLsbD k = false := BitVec.getLsbD_of_ge _ _ (by omega)
      cases sel.getLsbD k && imod.getLsbD 1 <;> simp [h5, hmode]

/-- A mode other than User is legal. -/
theorem legalMode_of_mode_ne {s : State} (h : s.mode ≠ .usr) : legalMode s.cpsr = true := by
  rw [legalMode]
  by_contra hnone
  rw [Bool.not_eq_true, Option.isSome_eq_false_iff, Option.isNone_iff_eq_none] at hnone
  exact h (by rw [State.mode, hnone]; rfl)

/-- Settles O50: the bits of the merged CPSR, its mode legal by the hypothesis or as before. -/
theorem cpsResult : Obligations.CpsResult := by
  intro cond imod m a i f mode s hcond hlegal
  have hexec : exec (.hypCps cond imod m a i f mode) s =
      if s.mode = .usr then advance s
      else cpsrWrite s (cpsValue s.cpsr (cpsSelect a i f) imod m mode).1 (cpsValue s.cpsr (cpsSelect a i f) imod m mode).2 := by
    show execHypCps cond imod m a i f mode s = _
    rw [execHypCps, refusing_of_false _ _ _ ?_, gated_true _ _ _ hcond]
    cases m <;> by_cases hm : s.mode = .usr <;> simp_all
  rw [hexec]
  by_cases hm : s.mode = .usr
  · rw [if_pos hm]
    exact ⟨_, (Evolves.refl s).advance, (Evolves.refl s).okAt _, fun _ => rfl, fun h => absurd hm h, rfl, .of_regs rfl, .of_mem rfl, rfl,
      rfl⟩
  · have hbit {k : Nat} (hk : k < 32) := getLsbD_cps s.cpsr (cpsSelect a i f) imod m mode hk
    have hsel {k : Nat} (hk : k < 32) := getLsbD_cpsSelect a i f k hk
    rw [if_neg hm, cpsrWrite_eq s rfl, if_neg hm]
    generalize mergeBits s.cpsr (cpsValue s.cpsr (cpsSelect a i f) imod m mode).1 (cpsValue s.cpsr (cpsSelect a i f) imod m mode).2 = new at *
    have hmode : modeField new = if m then mode else modeField s.cpsr := by
      refine BitVec.eq_of_getLsbD_eq fun k hk => ?_
      rw [modeField, BitVec.getLsbD_extractLsb', decide_eq_true hk, Bool.true_and, Nat.zero_add, hbit (by omega), hsel (by omega),
        decide_eq_true hk]
      cases m with
      | true => rfl
      | false =>
        show _ = (s.cpsr.extractLsb' 0 5).getLsbD k
        rw [BitVec.getLsbD_extractLsb', decide_eq_true hk, Bool.true_and, Nat.zero_add,
          decide_eq_false (by omega), decide_eq_false (by omega), decide_eq_false (by omega)]
        rfl
    have hnew : legalMode new = true := by
      rw [legalMode, hmode]
      cases m with
      | true => exact hlegal rfl hm
      | false => exact legalMode_of_mode_ne hm
    rw [if_pos hnew]
    refine ⟨_, rfl, (Evolves.refl s).okAt_withCpsr _ _, fun h => absurd h hm, fun _ => ⟨?_, ?_, ?_, ?_, ?_, hmode⟩, rfl, .of_regs rfl,
      .of_mem rfl, rfl, rfl⟩
    · refine BitVec.eq_of_getLsbD_eq fun k hk => ?_
      rw [BitVec.getLsbD_extractLsb', BitVec.getLsbD_extractLsb', decide_eq_true hk, State.ended_cpsr, State.withCpsr_cpsr, hbit (by omega),
        hsel (by omega),         decide_eq_false (by omega), decide_eq_false (by omega), decide_eq_false (by omega),
          decide_eq_false (by omega), Bool.and_false]
      rfl
    all_goals
      rw [State.ended_cpsr, State.withCpsr_cpsr, hbit (by decide), hsel (by decide)]
      simp

end Sys2Proof.Machine
end

/-! ## Proofs: the coprocessor instructions (R320 to R335) -/

section
namespace Sys2Proof.Machine

/-! ### A registered coprocessor -/

section
variable {s : State} {n : BitVec 4} {h : Hooks} {u : CopUnit} {r : RefCop}

theorem copWith_of_cop (hc : s.cop n = some ⟨h, u⟩) {needs : Hooks → Bool} (hn : needs h = true) : s.copWith n needs = some ⟨h, u⟩ := by
  simp [State.copWith, hc, hn]

theorem copUnit_of_cop (hc : s.cop n = some ⟨h, u⟩) : s.copUnit n = u := by simp [State.copUnit, hc]

/-- What a hook call leaves that gives a reference coprocessor new contents. -/
theorem hookSet_result {e : Event} {r' : RefCop} (hc : s.cop n = some ⟨h, .reference r⟩)
    (hkeeps : Evolves s ((s.called e).setCopUnit n (.reference r'))) : ∃ t, advance ((s.called e).setCopUnit n (.reference r')) = .next t ∧
      OkAt (s.pc + 4#32) s t ∧ t.cop n = some ⟨h, .reference r'⟩ ∧ (∀ m, m ≠ n → t.cop m = s.cop m) ∧ SameRegsBut [] s t ∧ SameStatus s t ∧
      SameMemory s t ∧ t.events = s.events ++ [e] := by
  have hcop (k : BitVec 4) := cop_setCopUnit (s.called e) n k (.reference r')
  refine ⟨_, hkeeps.advance, hkeeps.okAt _, ?_, fun m hm => ?_, .of_regs (by simp), hkeeps.sameStatus, .of_mem (by simp), by simp⟩
  · rw [State.ended_cop, hcop, if_pos rfl, cop_congr (State.called_coprocs s e), hc]
    rfl
  · rw [State.ended_cop, hcop, if_neg hm]
    rfl

/-- A hook call that changes nothing. -/
theorem answered_called (s : State) (e : Event) : ∃ t, advance (s.called e) = .next t ∧ Answered [e] [] s t ∧ t.cpsr = s.cpsr := by
  have hkeeps := evolves_called s e
  exact ⟨_, hkeeps.advance, ⟨hkeeps.okAt _, .of_regs rfl, rfl, .of_mem rfl, rfl, rfl⟩, rfl⟩

theorem injects_nil (s : State) : ∃ t, injectUndef s = .next t ∧ Injects [] s t :=
  ⟨_, rfl, ⟨rfl, rfl, rfl, rfl, rfl, rfl, rfl, rfl, rfl, rfl⟩, rfl, by simp, rfl⟩

theorem injects_called (s : State) (e : Event) : ∃ t, injectUndef (s.called e) = .next t ∧ Injects [e] s t :=
  ⟨_, rfl, ⟨rfl, rfl, rfl, rfl, rfl, rfl, rfl, rfl, rfl, rfl⟩, rfl, rfl, rfl⟩

end

/-! ### The contents of a reference coprocessor -/

theorem regKey_inj {a a' b b' : BitVec 3} {c c' d d' : BitVec 4} (h : regKey a b c d = regKey a' b' c' d') : a = a' ∧ b = b' ∧ c = c' ∧
    d = d' := by
  simp only [regKey, toNat_append_eq] at h
  refine ⟨BitVec.eq_of_toNat_eq ?_, BitVec.eq_of_toNat_eq ?_, BitVec.eq_of_toNat_eq ?_, BitVec.eq_of_toNat_eq ?_⟩ <;> omega

theorem pairKey_inj {a a' b b' : BitVec 4} (h : pairKey a b = pairKey a' b') : a = a' ∧ b = b' := by
  simp only [pairKey, toNat_append_eq] at h
  exact ⟨BitVec.eq_of_toNat_eq (by omega), BitVec.eq_of_toNat_eq (by omega)⟩

theorem refCopWord_set_self (r : RefCop) {k : Nat} (v : Word) (hk : k < 32) : refCopWord (setRefCopWord r k v) k = v := by
  simp [refCopWord, setRefCopWord, hk]

theorem refCopWord_set_ne (r : RefCop) {k j : Nat} (v : Word) (h : j ≠ k) : refCopWord (setRefCopWord r k v) j = refCopWord r j := by
  simp [refCopWord, setRefCopWord, h.symm]

/-! ### MCR, MCRR and CDP -/

/-- Settles O45. -/
theorem coprocessorWrites : Obligations.CoprocessorWrites := by
  refine ⟨fun cond o1 cn rt n o2 cm s h r hrt hcond hc hwf hhook => ?_, fun cond rt2 rt n o1 cm s h r hrt hrt2 hcond hc hwf hhook => ?_,
    fun cond o1 cn cd n o2 cm s h r hcond hc hhook => ⟨fun ho1 => ?_, fun ho1 => ?_⟩⟩
  · have hkeeps := evolves_hookWrite s n o1 o2 cn cm (s.x rt)
    rw [exec_mcr_some _ _ _ _ _ _ _ _ (copWith_of_cop hc hhook), refusing_of_false _ _ _ (by simpa using hrt), gated_true _ _ _ hcond]
    rw [hookWrite, copUnit_of_cop hc] at hkeeps ⊢
    rw [hc] at hwf
    simp only [copWf, Bool.and_eq_true] at hwf
    obtain ⟨t, ht, hok, hcop, hothers, hregs, hstatus, hmem, hevents⟩ := hookSet_result hc hkeeps
    refine ⟨t, _, ht, hok, hcop, hothers, cellsRead_write_self _ _ _ _ _ hwf.1,
      fun a b c d hne => cellsRead_write_ne _ _ _ fun hkey => hne ?_, rfl, rfl, hregs,
      hstatus, hmem, hevents⟩
    exact regKey_inj hkey
  · have hkeeps := evolves_hookWrite2 s n o1 cm (s.x rt) (s.x rt2)
    rw [exec_mcrr_some _ _ _ _ _ _ _ (copWith_of_cop hc hhook), refusing_of_false _ _ _ (by simp [hrt, hrt2]), gated_true _ _ _ hcond]
    rw [hookWrite2, copUnit_of_cop hc] at hkeeps ⊢
    rw [hc] at hwf
    simp only [copWf, Bool.and_eq_true] at hwf
    obtain ⟨t, ht, hok, hcop, hothers, hregs, hstatus, hmem, hevents⟩ := hookSet_result hc hkeeps
    exact ⟨t, _, ht, hok, hcop, hothers, cellsRead_write_self _ _ _ _ _ hwf.2,
      fun a b hne => cellsRead_write_ne _ _ _ fun hkey => hne (pairKey_inj hkey), rfl, rfl, hregs, hstatus, hmem, hevents⟩
  · have hkeeps := evolves_hookDataProcess s n o1 o2 cd cn cm
    rw [exec_cdp_some _ _ _ _ _ _ _ _ (copWith_of_cop hc hhook), gated_true _ _ _ hcond]
    rw [hookDataProcess, copUnit_of_cop hc] at hkeeps ⊢
    simp only [if_pos ho1] at hkeeps ⊢
    obtain ⟨t, ht, hok, hcop, hothers, hregs, hstatus, hmem, hevents⟩ := hookSet_result hc hkeeps
    exact ⟨t, _, ht, hok, hcop, hothers, refCopWord_set_self r _ (Nat.lt_trans cd.isLt (by decide)),
      fun k hk => refCopWord_set_ne r _ hk, rfl, rfl,
      hregs, hstatus, hmem, hevents⟩
  · rw [exec_cdp_some _ _ _ _ _ _ _ _ (copWith_of_cop hc hhook), gated_true _ _ _ hcond, hookDataProcess, copUnit_of_cop hc]
    simp only [if_neg ho1]
    exact injects_called s _

/-! ### MRC and MRRC -/

theorem banked_pc (s : State) : banked s [15#4] = [] := by simp [banked, (bank_eq_none _ _).2 rfl]

theorem extractLsb'_withFlags_high (psr v : Word) :
    (withFlags psr (flagN v) (flagZ v) (flagC v) (flagV v)).extractLsb' 28 4 = v.extractLsb' 28 4 := by
  obtain ⟨hn, hz, hc, hv⟩ := flagsOf_withFlags psr (flagN v) (flagZ v) (flagC v) (flagV v)
  refine BitVec.eq_of_getLsbD_eq fun i hi => ?_
  rw [BitVec.getLsbD_extractLsb', BitVec.getLsbD_extractLsb']
  interval_cases i
  · exact congrArg _ hv
  · exact congrArg _ hc
  · exact congrArg _ hz
  · exact congrArg _ hn

/-- MRC with an answer: the register, or the four flags when `Rt = 15` (R330). -/
theorem mrc_answered {cond : Cond} {o1 o2 : BitVec 3} {cn rt n cm : BitVec 4} {s : State} {o : CopObject} {v : Word}
    (hcond : condPassed cond s.cpsr = true) (ho : s.copWith n Hooks.read = some o) (hv : (hookRead s n o1 o2 cn cm).1 = some v) :
    ∃ t, exec (.mrc cond o1 cn rt n o2 cm) s = .next t ∧ Answered [.hook n (.read o1 o2 cn cm)] (banked s [rt]) s t ∧
      (rt ≠ 15#4 → t.x rt = v ∧ t.cpsr = s.cpsr) ∧
      (rt = 15#4 → t.cpsr.extractLsb' 28 4 = v.extractLsb' 28 4 ∧ t.cpsr.extractLsb' 0 28 = s.cpsr.extractLsb' 0 28) := by
  rw [exec_mrc_answers _ _ _ _ _ _ _ _ ho hv, gated_true _ _ _ hcond, State.setMrcTarget]
  have hcalled := evolves_called s (.hook n (.read o1 o2 cn cm))
  by_cases hrt : rt = 15#4
  · subst hrt
    rw [if_pos rfl, banked_pc]
    exact ⟨_, rfl, ⟨hcalled.okAt_withCpsr _ _, .of_regs rfl, rfl, .of_mem rfl, rfl, rfl⟩, fun h => absurd rfl h,
      fun _ => ⟨extractLsb'_withFlags_high _ v, extractLsb'_withFlags ..⟩⟩
  · rw [if_neg hrt]
    have hkeeps := hcalled.trans (evolves_setX _ rt v)
    exact ⟨_, hkeeps.advance, ⟨hkeeps.okAt _, sameRegsBut_setX (s.called _) rt v, hkeeps.spsr, .of_mem (by simp), by simp [SameCoprocs],
      by simp⟩,
      fun _ => ⟨(State.x_ended _ _ hrt).trans (State.x_setX_self _ v hrt), hkeeps.cpsr⟩, fun h => absurd h hrt⟩

/-- MRRC with an answer (R328). -/
theorem mrrc_answered {cond : Cond} {rt2 rt n o1 cm : BitVec 4} {s : State} {o : CopObject} {v : Word × Word} (hrt : rt ≠ 15#4)
    (hrt2 : rt2 ≠ 15#4)
    (hne : rt ≠ rt2) (hcond : condPassed cond s.cpsr = true) (ho : s.copWith n Hooks.read2 = some o) (hv :
      (hookRead2 s n o1 cm).1 = some v) :
    ∃ t, exec (.mrrc cond rt2 rt n o1 cm) s = .next t ∧ Answered [.hook n (.read2 o1 cm)] (banked s [rt, rt2]) s t ∧
      (t.x rt, t.x rt2) = v ∧ t.cpsr = s.cpsr := by
  rw [exec_mrrc_answers _ _ _ _ _ _ _ ho hv, refusing_of_false _ _ _ (by simp [hrt, hrt2, hne]), gated_true _ _ _ hcond]
  have hkeeps := ((evolves_called s (.hook n (.read2 o1 cm))).trans (evolves_setX _ rt v.1)).trans (evolves_setX _ rt2 v.2)
  refine ⟨_, hkeeps.advance, ⟨hkeeps.okAt _, ?_, hkeeps.spsr, .of_mem (by simp), by simp [SameCoprocs], by simp⟩, ?_, hkeeps.cpsr⟩
  · exact (sameRegsBut_setX (s.called _) rt v.1).setX (by simp) rt2 v.2
  · rw [State.x_ended _ _ hrt, State.x_ended _ _ hrt2, State.x_setX_ne _ _ hne hrt, State.x_setX_self _ _ hrt, State.x_setX_self _ _ hrt2]

/-- Settles O46. -/
theorem coprocessorReads : Obligations.CoprocessorReads := by
  refine ⟨fun cond o1 cn rt n o2 cm s h r v hcond hc hhook hv => ?_, fun cond rt2 rt n o1 cm s h r hrt hrt2 hne hcond hc hhook => ?_⟩
  · have hread : (hookRead s n o1 o2 cn cm).1 = some v := by rw [hookRead, copUnit_of_cop hc, hv]
    obtain ⟨t, ht, ⟨hok, hregs, hspsr, hmem, hcops, hevents⟩, hreg, hflags⟩ := mrc_answered (rt := rt) hcond (copWith_of_cop hc hhook) hread
    refine ⟨t, ht, hok, fun hrt => ⟨(hreg hrt).1, (hreg hrt).2, hregs⟩, fun hrt => ⟨(hflags hrt).1, (hflags hrt).2, ?_⟩, hspsr, hmem,
      hcops, hevents⟩
    rwa [hrt, banked_pc] at hregs
  · have hread : (hookRead2 s n o1 cm).1 = some (cellsRead (0#32, 0#32) r.pair (pairKey o1 cm)) := by rw [hookRead2, copUnit_of_cop hc]
    obtain ⟨t, ht, ⟨hok, hregs, hspsr, hmem, hcops, hevents⟩, hpair, hcpsr⟩ :=
      mrrc_answered hrt hrt2 hne hcond (copWith_of_cop hc hhook) hread
    exact ⟨t, ht, hok, hpair, hregs, ⟨hcpsr, hspsr⟩, hmem, hcops, hevents⟩

/-! ### Declines -/

section
variable {cond : Cond} {p u d w : Bool} {rn crd n : BitVec 4} {v : BitVec 8} {s : State}

theorem exec_stc_eq (hcond : condPassed cond s.cpsr = true) (hrn : rn ≠ 15#4) : exec (.stc cond p u d w rn crd n v) s =
    stcSteps p u w (s.x rn) rn n ⟨d, crd, unindexed p w, v⟩ s := by
  show execStc cond p u d w rn crd n v s = _
  rw [execStc, refusing_of_false _ _ _ (by simpa using hrn), gated_true _ _ _ hcond]

theorem exec_ldcImmediate_eq (hcond : condPassed cond s.cpsr = true) : exec (.ldcImmediate cond p u d w rn crd n v) s =
    ldcSteps p u w (s.x rn) rn n ⟨d, crd, unindexed p w, v⟩ s := gated_true _ _ _ hcond

theorem exec_ldcLiteral_eq (hcond : condPassed cond s.cpsr = true) : exec (.ldcLiteral cond p u d false crd n v) s =
    ldcSteps p u false (literalBase s) 15#4 n ⟨d, crd, !p, v⟩ s := by
  show execLdcLiteral cond p u d false crd n v s = _
  rw [execLdcLiteral, refusing_of_false _ _ _ (by simp), gated_true _ _ _ hcond, unindexed, Bool.not_false, Bool.and_true]

end

section
variable (p u w : Bool) (base : Word) (rn n : BitVec 4) (a : TransferArgs) (s : State)

theorem ldcSteps_none (h : s.copWith n ldcHooks = none) : ldcSteps p u w base rn n a s = injectUndef s := by rw [ldcSteps, h]

theorem stcSteps_none (h : s.copWith n stcHooks = none) : stcSteps p u w base rn n a s = injectUndef s := by rw [stcSteps, h]

variable {n a s} {o : CopObject}

theorem ldcSteps_declined (ho : s.copWith n ldcHooks = some o) (h : (hookAccept s n a).1 = false) :
    ldcSteps p u w base rn n a s = injectUndef (s.called (acceptEvent n a)) := by
  simp only [ldcSteps, ho, h, Bool.false_eq_true, if_false, hookAccept_state]

theorem stcSteps_declined (ho : s.copWith n stcHooks = some o) (h : (hookAccept s n a).1 = false) :
    stcSteps p u w base rn n a s = injectUndef (s.called (acceptEvent n a)) := by
  simp only [stcSteps, ho, h, Bool.false_eq_true, if_false, hookAccept_state]

theorem ldcSteps_accepted (ho : s.copWith n ldcHooks = some o) (h : (hookAccept s n a).1 = true) : ldcSteps p u w base rn n a s =
    (ldcLoop n a (loopBound o.unit) 0 (transferStart p u base a.imm8) (s.called (acceptEvent n a))).finish fun s' =>
      advance (s'.writeBack w rn (offsetAddress u base (a.imm8.setWidth 32 <<< 2))) := by
  simp only [ldcSteps, ho, h, if_true, hookAccept_state]

theorem stcSteps_accepted (ho : s.copWith n stcHooks = some o) (h : (hookAccept s n a).1 = true) : stcSteps p u w base rn n a s =
    (stcLoop n a (loopBound o.unit) 0 (transferStart p u base a.imm8) (s.called (acceptEvent n a))).finish fun s' =>
      advance (s'.writeBack w rn (offsetAddress u base (a.imm8.setWidth 32 <<< 2))) := by
  simp only [stcSteps, ho, h, if_true, hookAccept_state]

end

/-- A transfer that was accepted ends Ok or with a fault, if it ends. -/
theorem finish_not_injected {r : LoopResult} {f : State → State} {t : State} (h : r.finish (fun s' => advance (f s')) = .next t) :
    t.result ≠ some .undefInjected := by
  cases r with
  | finished s' => cases h; simp
  | faulted code s' => cases h; simp
  | endless => cases h

section
variable {n : BitVec 4} {a : TransferArgs} {s : State} {h : Hooks}

theorem hookAccept_external {b : Nat} (hc : s.cop n = some ⟨h, .external b⟩) :
    (hookAccept s n a).1 = Config.hookAnswer s.envTick n (.ldcstcAccept a.d a.crd a.uopt a.imm8) := by
  rw [hookAccept, copUnit_of_cop hc]

theorem hookAccept_reference {r : RefCop} (hc : s.cop n = some ⟨h, .reference r⟩) :
    (hookAccept s n a).1 = (decide (a.crd.toNat < 8) && !a.uopt) := by
  rw [hookAccept, copUnit_of_cop hc]

/-- On a coprocessor the spec says nothing of, its answer decides whether the transfer is injected. -/
theorem ldcSteps_external {b : Nat} (hc : s.cop n = some ⟨h, .external b⟩) (hh : ldcHooks h = true) (p u w : Bool) (base : Word)
    (rn : BitVec 4) :
    if Config.hookAnswer s.envTick n (.ldcstcAccept a.d a.crd a.uopt a.imm8) then
      ∀ t, ldcSteps p u w base rn n a s = .next t → t.result ≠ some .undefInjected
    else ∃ t, ldcSteps p u w base rn n a s = .next t ∧ Injects [acceptEvent n a] s t := by
  rw [← hookAccept_external hc]
  cases haccept : (hookAccept s n a).1 with
  | true =>
    rw [if_pos rfl, ldcSteps_accepted p u w base rn (copWith_of_cop hc hh) haccept]
    exact fun t ht => finish_not_injected ht
  | false =>
    rw [if_neg (by decide), ldcSteps_declined p u w base rn (copWith_of_cop hc hh) haccept]
    exact injects_called s _

theorem stcSteps_external {b : Nat} (hc : s.cop n = some ⟨h, .external b⟩) (hh : stcHooks h = true) (p u w : Bool) (base : Word)
    (rn : BitVec 4) :
    if Config.hookAnswer s.envTick n (.ldcstcAccept a.d a.crd a.uopt a.imm8) then
      ∀ t, stcSteps p u w base rn n a s = .next t → t.result ≠ some .undefInjected
    else ∃ t, stcSteps p u w base rn n a s = .next t ∧ Injects [acceptEvent n a] s t := by
  rw [← hookAccept_external hc]
  cases haccept : (hookAccept s n a).1 with
  | true =>
    rw [if_pos rfl, stcSteps_accepted p u w base rn (copWith_of_cop hc hh) haccept]
    exact fun t ht => finish_not_injected ht
  | false =>
    rw [if_neg (by decide), stcSteps_declined p u w base rn (copWith_of_cop hc hh) haccept]
    exact injects_called s _

/-- The reference coprocessor declines `CRd > 7` and the unindexed form (R335). -/
theorem hookAccept_reference_declines {r : RefCop} (hc : s.cop n = some ⟨h, .reference r⟩) (hd : 8 ≤ a.crd.toNat ∨ a.uopt = true) :
    (hookAccept s n a).1 = false := by
  rw [hookAccept_reference hc]
  obtain hd | hd := hd
  · rw [decide_eq_false (by omega), Bool.false_and]
  · rw [hd, Bool.not_true, Bool.and_false]

end

theorem unindexed_eq_true {p w : Bool} (h : (p || w) = false) : unindexed p w = true := by
  cases p <;> cases w <;> simp_all [unindexed]

/-- Settles O49. -/
theorem coprocessorDeclines : Obligations.CoprocessorDeclines := by
  intro cond n s hcond
  refine ⟨⟨?_, ?_, ?_, ?_, ?_, ?_, ?_, ?_⟩, fun h b hc => ⟨?_, ?_, ?_, ?_, ?_, ?_, ?_, ?_⟩, fun h r hc => ⟨?_, ?_, ?_⟩⟩
  · intro o1 cn rt o2 cm hrt hnone
    rw [exec_mcr_none _ _ _ _ _ _ _ _ hnone, refusing_of_false _ _ _ (by simpa using hrt), gated_true _ _ _ hcond]
    exact injects_nil s
  · intro o1 cn rt o2 cm hnone
    rw [exec_mrc_none _ _ _ _ _ _ _ _ hnone, gated_true _ _ _ hcond]
    exact injects_nil s
  · intro rt2 rt o1 cm hrt hrt2 hnone
    rw [exec_mcrr_none _ _ _ _ _ _ _ hnone, refusing_of_false _ _ _ (by simp [hrt, hrt2]), gated_true _ _ _ hcond]
    exact injects_nil s
  · intro rt2 rt o1 cm hrt hrt2 hne hnone
    rw [exec_mrrc_none _ _ _ _ _ _ _ hnone, refusing_of_false _ _ _ (by simp [hrt, hrt2, hne]), gated_true _ _ _ hcond]
    exact injects_nil s
  · intro o1 cn cd o2 cm hnone
    rw [exec_cdp_none _ _ _ _ _ _ _ _ hnone, gated_true _ _ _ hcond]
    exact injects_nil s
  · intro p u d w rn crd v hrn hnone
    rw [exec_stc_eq hcond hrn, stcSteps_none _ _ _ _ _ _ _ _ hnone]
    exact injects_nil s
  · intro p u d w rn crd v hnone
    rw [exec_ldcImmediate_eq hcond, ldcSteps_none _ _ _ _ _ _ _ _ hnone]
    exact injects_nil s
  · intro p u d crd v hnone
    rw [exec_ldcLiteral_eq hcond, ldcSteps_none _ _ _ _ _ _ _ _ hnone]
    exact injects_nil s
  · intro o1 cn rt o2 cm hrt hhook
    rw [exec_mcr_some _ _ _ _ _ _ _ _ (copWith_of_cop hc hhook), refusing_of_false _ _ _ (by simpa using hrt), gated_true _ _ _ hcond,
      hookWrite,
      copUnit_of_cop hc]
    dsimp only
    split
    · exact answered_called s _
    · exact injects_called s _
  · intro o1 cn rt o2 cm hhook
    have hread : (hookRead s n o1 o2 cn cm).1 = Config.hookWord s.envTick n (.read o1 o2 cn cm) := by rw [hookRead, copUnit_of_cop hc]
    cases hanswer : Config.hookWord s.envTick n (.read o1 o2 cn cm) with
    | some v => exact mrc_answered hcond (copWith_of_cop hc hhook) (hread.trans hanswer)
    | none =>
      rw [exec_mrc_declines _ _ _ _ _ _ _ _ (copWith_of_cop hc hhook) (hread.trans hanswer), gated_true _ _ _ hcond]
      exact injects_called s _
  · intro rt2 rt o1 cm hrt hrt2 hhook
    rw [exec_mcrr_some _ _ _ _ _ _ _ (copWith_of_cop hc hhook), refusing_of_false _ _ _ (by simp [hrt, hrt2]), gated_true _ _ _ hcond,
      hookWrite2,
      copUnit_of_cop hc]
    dsimp only
    split
    · exact answered_called s _
    · exact injects_called s _
  · intro rt2 rt o1 cm hrt hrt2 hne hhook
    have hread : (hookRead2 s n o1 cm).1 = Config.hookPair s.envTick n (.read2 o1 cm) := by rw [hookRead2, copUnit_of_cop hc]
    cases hanswer : Config.hookPair s.envTick n (.read2 o1 cm) with
    | some v => exact mrrc_answered hrt hrt2 hne hcond (copWith_of_cop hc hhook) (hread.trans hanswer)
    | none =>
      rw [exec_mrrc_declines _ _ _ _ _ _ _ (copWith_of_cop hc hhook) (hread.trans hanswer), refusing_of_false _ _ _ (by simp [hrt, hrt2,
        hne]),
        gated_true _ _ _ hcond]
      exact injects_called s _
  · intro o1 cn cd o2 cm hhook
    rw [exec_cdp_some _ _ _ _ _ _ _ _ (copWith_of_cop hc hhook), gated_true _ _ _ hcond, hookDataProcess, copUnit_of_cop hc]
    dsimp only
    split
    · exact answered_called s _
    · exact injects_called s _
  · intro p u d w rn crd v hrn hhook
    rw [exec_stc_eq hcond hrn]
    exact stcSteps_external (a := ⟨d, crd, unindexed p w, v⟩) hc hhook p u w _ rn
  · intro p u d w rn crd v hhook
    rw [exec_ldcImmediate_eq hcond]
    exact ldcSteps_external (a := ⟨d, crd, unindexed p w, v⟩) hc hhook p u w _ rn
  · intro p u d crd v hhook
    rw [exec_ldcLiteral_eq hcond]
    exact ldcSteps_external (a := ⟨d, crd, !p, v⟩) hc hhook p u false _ 15#4
  · intro p u d w rn crd v hrn hhook hdeclined
    rw [exec_stc_eq hcond hrn, stcSteps_declined p u w _ rn (copWith_of_cop hc hhook)
      (hookAccept_reference_declines hc (hdeclined.imp_right unindexed_eq_true))]
    exact injects_called s _
  · intro p u d w rn crd v hhook hdeclined
    rw [exec_ldcImmediate_eq hcond, ldcSteps_declined p u w _ rn (copWith_of_cop hc hhook)
      (hookAccept_reference_declines hc (hdeclined.imp_right unindexed_eq_true))]
    exact injects_called s _
  · intro p u d crd v hhook hdeclined
    rw [exec_ldcLiteral_eq hcond, ldcSteps_declined p u false _ 15#4 (copWith_of_cop hc hhook)
      (hookAccept_reference_declines hc (hdeclined.imp_right fun hp => by rw [hp]; rfl))]
    exact injects_called s _

end Sys2Proof.Machine
end

/-! ## Proofs: LDC and STC on a reference coprocessor (R323 to R326, R335) -/

section
/-! The loops word by word. From `s`, the state of the instruction's start,
  the port calls are `ldcstc_accept` and then three for each word. -/

namespace Sys2Proof.Machine

theorem wordAddr_next (a : Word) (j : Nat) : wordAddr a j + 4#32 = wordAddr a (j + 1) := by
  rw [wordAddr, wordAddr, BitVec.add_assoc, ← BitVec.ofNat_add, Nat.mul_succ]

/-- The number of words of one LDC or STC (R335). -/
def transferWords (a : TransferArgs) : Nat := if a.d then 4 else 2

theorem transferWords_le (a : TransferArgs) : transferWords a ≤ 4 := by
  unfold transferWords
  split <;> decide

theorem hookDone_eq {s : State} {n : BitVec 4} {h : Hooks} {r : RefCop} (hc : s.cop n = some ⟨h, .reference r⟩) (a : TransferArgs)
    (k : Nat) :
    hookDone s n a k = (decide (transferWords a ≤ k), s.called (doneEvent n a k)) := by
  rw [hookDone, copUnit_of_cop hc]
  rfl

theorem hookTransferWrite_eq {s : State} {n : BitVec 4} {h : Hooks} {r : RefCop} (hc : s.cop n = some ⟨h, .reference r⟩) (a : TransferArgs)
    (k : Nat) (v : Word) : hookTransferWrite s n a k v = (s.called (.hook n (.ldcstcWrite k a.d a.crd a.uopt a.imm8 v))).setCopUnit n
      (.reference (setRefCopWord r (a.crd.toNat + k) v)) := by
  rw [hookTransferWrite, copUnit_of_cop hc]

/-- The end of the loop: the coprocessor has all its words. -/
theorem ldcLoop_done {s : State} {n : BitVec 4} {a : TransferArgs} {k : Nat} (h : (hookDone s n a k).1 = true) (left : Nat) (addr : Word) :
    ldcLoop n a left k addr s = .finished (hookDone s n a k).2 := by
  cases left <;> rw [ldcLoop, if_pos h]

theorem stcLoop_done {s : State} {n : BitVec 4} {a : TransferArgs} {k : Nat} (h : (hookDone s n a k).1 = true) (left : Nat) (addr : Word) :
    stcLoop n a left k addr s = .finished (hookDone s n a k).2 := by
  cases left <;> rw [stcLoop, if_pos h]

/-! ### LDC -/

/-- The words that LDC's port calls yield, seen from the start of the instruction. -/
def ldcData (start : Word) (s : State) (j : Nat) : Word := laterPortData (3 * j + 2) s (s.readAccess (wordAddr start j) .word false)

/-- From `s` to `t`, LDC has called `ldcstc_accept` and delivered `c` words from `start` on to the coprocessor `n`,
  whose contents were `r`. -/
structure LdcDelivered (n : BitVec 4) (a : TransferArgs) (h : Hooks) (start : Word) (r : RefCop) (c : Nat) (s t : State) : Prop where
  keeps : Evolves s t
  regs : t.regs = s.regs
  mem : t.mem = s.mem
  tick : t.envTick = s.envTick + (3 * c + 1)
  events : t.events = s.events ++ ldcEvents n a start (ldcData start s) c
  cop : ∃ r', t.cop n = some ⟨h, .reference r'⟩ ∧ CopLoadedUpTo a.crd c (ldcData start s) r r'
  others : ∀ m, m ≠ n → t.cop m = s.cop m

section
variable {n : BitVec 4} {a : TransferArgs} {h : Hooks} {start : Word} {r : RefCop} {s t : State} {c : Nat}

theorem ldcDelivered_zero (start : Word) (a : TransferArgs) (hc : s.cop n = some ⟨h, .reference r⟩) :
    LdcDelivered n a h start r 0 s (s.called (acceptEvent n a)) where
  keeps := evolves_called s _
  regs := rfl
  mem := rfl
  tick := rfl
  events := rfl
  cop := ⟨r, hc, ⟨by simp, by simp, rfl, rfl⟩⟩
  others := fun _ _ => rfl

theorem ldcEvents_succ (n : BitVec 4) (a : TransferArgs) (start : Word) (data : Nat → Word) (c : Nat) :
    ldcEvents n a start data (c + 1) = ldcEvents n a start data c ++
      [doneEvent n a c, .read (wordAddr start c) .word false, .hook n (.ldcstcWrite c a.d a.crd a.uopt a.imm8 (data c))] := by
  simp [ldcEvents, List.range_succ]

/-- The port's answer to the read of the next word. -/
theorem LdcDelivered.readCode (hd : LdcDelivered n a h start r c s t) : (t.called (doneEvent n a c)).portCode
    ((t.called (doneEvent n a c)).readAccess (wordAddr start c) .word false) =
      laterPortCode (3 * c + 2) s (s.readAccess (wordAddr start c) .word false) := by
  rw [← laterPortCode_zero, State.readAccess_congr (s := s) (t := t.called (doneEvent n a c)) hd.keeps.mode]
  exact laterPortCode_congr (t := t.called (doneEvent n a c)) (j := 0) (k := 3 * c + 2) hd.keeps.port
    (congrArg (· + 1) hd.tick : t.envTick + 1 = s.envTick + (3 * c + 1) + 1) _

theorem LdcDelivered.readData (hd : LdcDelivered n a h start r c s t) : (t.called (doneEvent n a c)).portData
    ((t.called (doneEvent n a c)).readAccess (wordAddr start c) .word false) = ldcData start s c := by
  rw [State.readAccess_congr (s := s) (t := t.called (doneEvent n a c)) hd.keeps.mode]
  exact laterPortData_congr (t := t.called (doneEvent n a c)) (j := 0) (k := 3 * c + 2) hd.keeps.port hd.mem
    (congrArg (· + 1) hd.tick : t.envTick + 1 = s.envTick + (3 * c + 1) + 1) _

/-- The state after one more word. -/
def State.ldcWord (t : State) (n : BitVec 4) (a : TransferArgs) (c : Nat) (addr v : Word) : State :=
  hookTransferWrite ((t.called (doneEvent n a c)).called (.read addr .word false)) n a c v

/-- One round of the loop, which the port allows. -/
theorem ldcLoop_next (hcop : t.cop n = some ⟨h, .reference r⟩) (hc : c < transferWords a) {addr : Word}
    (hcode : (t.called (doneEvent n a c)).portCode ((t.called (doneEvent n a c)).readAccess addr .word false) = 0) (left : Nat) :
    ldcLoop n a (left + 1) c addr t = ldcLoop n a left (c + 1) (addr + 4#32) (t.ldcWord n a c addr
      ((t.called (doneEvent n a c)).portData ((t.called (doneEvent n a c)).readAccess addr .word false))) := by
  rw [ldcLoop, hookDone_eq hcop, if_neg (by simpa using hc), memRead_ok hcode]
  rfl

/-- One round of the loop, which the port refuses. -/
theorem ldcLoop_refused (hcop : t.cop n = some ⟨h, .reference r⟩) (hc : c < transferWords a) {addr : Word} {code : Nat} (hne : code ≠ 0)
    (hcode : (t.called (doneEvent n a c)).portCode ((t.called (doneEvent n a c)).readAccess addr .word false) = code) (left : Nat) :
    ldcLoop n a (left + 1) c addr t = .faulted code ((t.called (doneEvent n a c)).called (.read addr .word false)) := by
  rw [ldcLoop, hookDone_eq hcop, if_neg (by simpa using hc), memRead_refused hcode hne]

theorem CopLoadedUpTo.succ {crd : BitVec 4} {data : Nat → Word} {r r' : RefCop} (hl : CopLoadedUpTo crd c data r r')
    (hc : crd.toNat + c < 32) :
    CopLoadedUpTo crd (c + 1) data r (setRefCopWord r' (crd.toNat + c) (data c)) := by
  obtain ⟨hloaded, hothers, hreg, hpair⟩ := hl
  refine ⟨fun j hj => ?_, fun j hj => ?_, hreg, hpair⟩
  · obtain rfl | hlt : j = c ∨ j < c := by omega
    · exact refCopWord_set_self r' _ hc
    · rw [refCopWord_set_ne r' _ (by omega), hloaded j hlt]
  · rw [refCopWord_set_ne r' _ (by omega), hothers j (by omega)]

theorem LdcDelivered.succ (hd : LdcDelivered n a h start r c s t) (hc : a.crd.toNat + c < 32) :
    LdcDelivered n a h start r (c + 1) s (t.ldcWord n a c (wordAddr start c) (ldcData start s c)) := by
  obtain ⟨r', hcop, hloaded⟩ := hd.cop
  have hcop' : ((t.called (doneEvent n a c)).called (.read (wordAddr start c) .word false)).cop n = some ⟨h, .reference r'⟩ := hcop
  have hset := cop_setCopUnit (((t.called (doneEvent n a c)).called (.read (wordAddr start c) .word false)).called
    (.hook n (.ldcstcWrite c a.d a.crd a.uopt a.imm8 (ldcData start s c)))) n
  have hword := evolves_hookTransferWrite ((t.called (doneEvent n a c)).called (.read (wordAddr start c) .word false)) n a c (ldcData start s c)
  have hcalls : Evolves s ((t.called (doneEvent n a c)).called (.read (wordAddr start c) .word false)) :=
    (hd.keeps.trans (evolves_called _ _)).trans (evolves_called _ _)
  refine ⟨hcalls.trans hword, ?_, ?_, ?_, ?_, ⟨_, ?_, hloaded.succ hc⟩, fun m hm => ?_⟩
  all_goals rw [State.ldcWord, hookTransferWrite_eq hcop']
  · rw [State.setCopUnit_regs]
    exact hd.regs
  · rw [State.setCopUnit_mem]
    exact hd.mem
  · rw [State.setCopUnit_envTick]
    exact congrArg (· + 3) hd.tick
  · rw [State.setCopUnit_events, State.called_events, State.called_events, State.called_events, hd.events, ldcEvents_succ]
    simp only [List.append_assoc, List.cons_append, List.nil_append]
  · rw [hset, if_pos rfl]
    exact congrArg (Option.map _) hcop
  · rw [hset, if_neg hm]
    exact hd.others m hm

/-- The loop after `c` words that the port allowed. -/
theorem ldcLoop_delivers (hc : s.cop n = some ⟨h, .reference r⟩) (hcrd : a.crd.toNat < 8) (hle : c ≤ transferWords a)
    (hcode : ∀ j, j < c → laterPortCode (3 * j + 2) s (s.readAccess (wordAddr start j) .word false) = 0) : ∃ t,
    ldcLoop n a 4 0 start (s.called (acceptEvent n a)) = ldcLoop n a (4 - c) c (wordAddr start c) t ∧ LdcDelivered n a h start r c s t := by
  induction c with
  | zero => exact ⟨_, by rw [wordAddr_zero], ldcDelivered_zero start a hc⟩
  | succ c ih =>
    obtain ⟨t, hloop, hd⟩ := ih (by omega) fun j hj => hcode j (by omega)
    obtain ⟨r', hcop, _⟩ := hd.cop
    have hwords := transferWords_le a
    refine ⟨_, ?_, hd.succ (by omega)⟩
    rw [hloop, show 4 - c = 4 - (c + 1) + 1 by omega,
      ldcLoop_next hcop (by omega) (hd.readCode.trans (hcode c (Nat.lt_succ_self c))) (4 - (c + 1)), hd.readData, wordAddr_next]

/-! The whole of LDC, from a base that is a register's value or the PC's. -/

/-- What LDC leaves before its write-back, with every word delivered. -/
theorem ldcSteps_ok (hport : PlainMemory s) (hc : s.cop n = some ⟨h, .reference r⟩) (hh : ldcHooks h = true) (hcrd : a.crd.toNat < 8)
    (huopt : a.uopt = false) (p u w : Bool) (base : Word) (rn : BitVec 4) (hstart : start = transferStart p u base a.imm8) : ∃ t,
      ldcSteps p u w base rn n a s = advance (t.writeBack w rn (offsetAddress u base (a.imm8.setWidth 32 <<< 2))) ∧
      Evolves s t ∧ t.regs = s.regs ∧ t.mem = s.mem ∧ (∀ m, m ≠ n → t.cop m = s.cop m) ∧
      (∃ r', t.cop n = some ⟨h, .reference r'⟩ ∧ CopLoadedUpTo a.crd (transferWords a) (fun k => s.mem.read32 (wordAddr start k)) r r') ∧
      t.events = s.events ++ ldcEvents n a start (fun k => s.mem.read32 (wordAddr start k)) (transferWords a) ++
        [doneEvent n a (transferWords a)] := by
  obtain ⟨t, hloop, hd⟩ := ldcLoop_delivers (start := start) hc hcrd (Nat.le_refl (transferWords a)) fun j _ => hport.laterPortCode (3 * j + 2) _
  obtain ⟨r', hcop, hloaded⟩ := hd.cop
  have hdata : ldcData start s = fun k => s.mem.read32 (wordAddr start k) := funext fun k => hport.laterPortData (3 * k + 2) _ false
  have haccept : (hookAccept s n a).1 = true := by rw [hookAccept_reference hc, huopt, decide_eq_true hcrd]; rfl
  have hdone : (hookDone t n a (transferWords a)).1 = true := by rw [hookDone_eq hcop]; exact decide_eq_true (Nat.le_refl _)
  have hevents := hd.events
  rw [hdata] at hloaded hevents
  refine ⟨t.called (doneEvent n a (transferWords a)), ?_, hd.keeps.trans (evolves_called _ _), hd.regs, hd.mem, hd.others, ⟨r', hcop,
    hloaded⟩, ?_⟩
  · rw [ldcSteps_accepted p u w base rn (copWith_of_cop hc hh) haccept, ← hstart]
    show (ldcLoop n a 4 0 start (s.called (acceptEvent n a))).finish _ = _
    rw [hloop, ldcLoop_done hdone, hookDone_eq hcop]
    rfl
  · rw [State.called_events, hevents]

/-- What LDC leaves when the port refuses a word (R324, D14). -/
theorem ldcSteps_fault (hc : s.cop n = some ⟨h, .reference r⟩) (hh : ldcHooks h = true) (hcrd : a.crd.toNat < 8) (huopt : a.uopt = false)
    (p u w : Bool) (base : Word) (rn : BitVec 4) (hstart : start = transferStart p u base a.imm8) {k code : Nat} (hk : k < transferWords a)
    (hfails : ReadFails (fun j => 3 * j + 2) start k code s) : ∃ t r', ldcSteps p u w base rn n a s = .next t ∧
      FaultsAfter code (ldcEvents n a start (ldcData start s) k ++ [doneEvent n a k, .read (wordAddr start k) .word false]) s t ∧
      t.cop n = some ⟨h, .reference r'⟩ ∧ (∀ m, m ≠ n → t.cop m = s.cop m) ∧ CopLoadedUpTo a.crd k (ldcData start s) r r' ∧
      SameRegsBut [] s t ∧ SameMemory s t := by
  obtain ⟨hne, hbefore, hat⟩ := hfails
  obtain ⟨t, hloop, hd⟩ := ldcLoop_delivers hc hcrd hk.le hbefore
  obtain ⟨r', hcop, hloaded⟩ := hd.cop
  have hwords := transferWords_le a
  have haccept : (hookAccept s n a).1 = true := by rw [hookAccept_reference hc, huopt, decide_eq_true hcrd]; rfl
  have hevents : (t.called (doneEvent n a k)).events = s.events ++ (ldcEvents n a start (ldcData start s) k ++ [doneEvent n a k]) := by
    rw [State.called_events, hd.events, List.append_assoc]
  have hfault := (hd.keeps.trans (evolves_called t (doneEvent n a k))).faultsAfter hevents (.read (wordAddr start k) .word false) code
  rw [List.append_assoc] at hfault
  refine ⟨_, r', ?_, hfault, hcop, hd.others, hloaded, .of_regs hd.regs, .of_mem hd.mem⟩
  rw [ldcSteps_accepted p u w base rn (copWith_of_cop hc hh) haccept, ← hstart]
  show (ldcLoop n a 4 0 start (s.called (acceptEvent n a))).finish _ = _
  rw [hloop, show 4 - k = 4 - (k + 1) + 1 by omega, ldcLoop_refused hcop hk hne (hd.readCode.trans hat)]
  rfl

end

theorem unindexed_eq_false {p w : Bool} (h : (p || w) = true) : unindexed p w = false := by
  cases p <;> cases w <;> simp_all [unindexed]

theorem not_literal_of_wellFormed {cond : Cond} {p u d w : Bool} {rn crd n : BitVec 4} {v : BitVec 8}
    (h : (Instr.ldcImmediate cond p u d w rn crd n v).wellFormed = true) : rn ≠ 15#4 := by
  rintro rfl
  simp [Instr.wellFormed, notLiteral] at h

/-- Settles O47. -/
theorem ldcResult : Obligations.LdcResult := by
  intro cond d n crd v s h r start words hcond hc hh hcrd hwords
  obtain rfl : words = transferWords ⟨d, crd, false, v⟩ := hwords
  have hliteral : literalBase s = (s.pc + 8#32) &&& ~~~3#32 := literalBase_eq s
  refine ⟨fun p u w rn hport hwf hpw hstart => ?_, fun u hport hstart => ?_, fun p u w rn i k code data hi hdata hk hfails => ?_⟩
  · have hrn := not_literal_of_wellFormed hwf
    obtain ⟨t, ht, hkeeps, hregs, hmem, hothers, ⟨r', hcop, hloaded⟩, hevents⟩ :=
      ldcSteps_ok (a := ⟨d, crd, false, v⟩) hport hc hh hcrd rfl p u w (s.x rn) rn hstart
    have hend := hkeeps.trans (evolves_writeBack t w rn (offsetAddress u (s.x rn) (v.setWidth 32 <<< 2)))
    rw [exec_ldcImmediate_eq hcond, unindexed_eq_false hpw, ht]
    refine ⟨_, r', hend.advance, hend.okAt _, ?_, fun m hm => ?_, hloaded, fun hw => ?_, ?_, hend.sameStatus, .of_mem ?_, ?_⟩
    · rw [State.ended_cop, cop_congr (State.writeBack_coprocs ..), hcop]
    · rw [State.ended_cop, cop_congr (State.writeBack_coprocs ..), hothers m hm]
    · rw [State.x_ended _ _ hrn, State.x_writeBack_self _ _ hw hrn]
    · exact SameRegsBut.writeBack (ns := []) (s := s) (.of_regs hregs) hkeeps.mode w rn _
    · rw [State.ended_mem, State.writeBack_mem, hmem]
    · rw [State.ended_events, State.writeBack_events, hevents]
  · obtain ⟨t, ht, hkeeps, hregs, hmem, hothers, ⟨r', hcop, hloaded⟩, hevents⟩ :=
      ldcSteps_ok (a := ⟨d, crd, false, v⟩) (start := start) hport hc hh hcrd rfl true u false (literalBase s) 15#4 (by rw [hliteral]; exact hstart)
    rw [exec_ldcLiteral_eq hcond, Bool.not_true, ht]
    exact ⟨_, r', hkeeps.advance, hkeeps.okAt _, hcop, hothers, hloaded, .of_regs hregs, hkeeps.sameStatus, .of_mem hmem, hevents⟩
  · obtain rfl : data = ldcData start s := funext hdata
    obtain ⟨_, hpw, rfl, hstart⟩ | ⟨rfl, hstart⟩ := hi
    · rw [exec_ldcImmediate_eq hcond, unindexed_eq_false hpw]
      exact ldcSteps_fault (a := ⟨d, crd, false, v⟩) hc hh hcrd rfl p u w (s.x rn) rn hstart hk hfails
    · rw [exec_ldcLiteral_eq hcond, Bool.not_true]
      exact ldcSteps_fault (a := ⟨d, crd, false, v⟩) hc hh hcrd rfl true u false (literalBase s) 15#4 (by rw [hliteral]; exact hstart) hk hfails

/-! ### STC -/

/-- From `s` to `t`, STC has called `ldcstc_accept` and stored `c` words of the coprocessor `n`, whose contents are `r`, from `start` on. -/
structure StcStored (n : BitVec 4) (a : TransferArgs) (start : Word) (r : RefCop) (c : Nat) (s t : State) : Prop where
  keeps : Evolves s t
  regs : t.regs = s.regs
  coprocs : t.coprocs = s.coprocs
  mem : t.mem = s.mem.writeWords start ((List.range c).map fun j => refCopWord r (a.crd.toNat + j))
  tick : t.envTick = s.envTick + (3 * c + 1)
  events : t.events = s.events ++ stcEvents n a start (fun j => refCopWord r (a.crd.toNat + j)) c

section
variable {n : BitVec 4} {a : TransferArgs} {h : Hooks} {start : Word} {r : RefCop} {s t : State} {c : Nat}

theorem stcStored_zero (n : BitVec 4) (a : TransferArgs) (start : Word) (r : RefCop) (s : State) :
    StcStored n a start r 0 s (s.called (acceptEvent n a)) where
  keeps := evolves_called s _
  regs := rfl
  coprocs := rfl
  mem := rfl
  tick := rfl
  events := rfl

theorem stcEvents_succ (n : BitVec 4) (a : TransferArgs) (start : Word) (data : Nat → Word) (c : Nat) :
    stcEvents n a start data (c + 1) = stcEvents n a start data c ++
      [doneEvent n a c, .hook n (.ldcstcRead c a.d a.crd a.uopt a.imm8), .write (wordAddr start c) .word (data c) false] := by
  simp [stcEvents, List.range_succ]

/-- The state in which STC writes its next word. -/
def State.stcAsked (t : State) (n : BitVec 4) (a : TransferArgs) (c : Nat) : State :=
  (t.called (doneEvent n a c)).called (.hook n (.ldcstcRead c a.d a.crd a.uopt a.imm8))

theorem hookTransferRead_eq (hc : s.cop n = some ⟨h, .reference r⟩) (a : TransferArgs) (k : Nat) : hookTransferRead s n a k =
    (refCopWord r (a.crd.toNat + k), s.called (.hook n (.ldcstcRead k a.d a.crd a.uopt a.imm8))) := by
  rw [hookTransferRead, copUnit_of_cop hc]

/-- One round of the loop. -/
theorem stcLoop_round (hcop : t.cop n = some ⟨h, .reference r⟩) (hc : c < transferWords a) (addr : Word) (left : Nat) :
    stcLoop n a (left + 1) c addr t =
      match memWrite (t.stcAsked n a c) addr .word (refCopWord r (a.crd.toNat + c)) false with
      | .ok _ s' => stcLoop n a left (c + 1) (addr + 4#32) s'
      | .err code s' => .faulted code s' := by
  have hcop' : (t.called (doneEvent n a c)).cop n = some ⟨h, .reference r⟩ := hcop
  rw [stcLoop, hookDone_eq hcop, if_neg (by simpa using hc), hookTransferRead_eq hcop']
  rfl

/-- The port's answer to the write of the next word. -/
theorem StcStored.writeCode (hd : StcStored n a start r c s t) (v : Word) : (t.stcAsked n a c).portCode
    ((t.stcAsked n a c).writeAccess (wordAddr start c) .word v false) =
      laterPortCode (3 * c + 3) s (s.writeAccess (wordAddr start c) .word v false) := by
  rw [← laterPortCode_zero, State.writeAccess_congr (s := s) (t := t.stcAsked n a c) hd.keeps.mode]
  exact laterPortCode_congr (t := t.stcAsked n a c) (j := 0) (k := 3 * c + 3) hd.keeps.port
    (congrArg (· + 2) hd.tick : t.envTick + 2 = s.envTick + (3 * c + 1) + 2) _

theorem StcStored.succ (hd : StcStored n a start r c s t) : StcStored n a start r (c + 1) s
    ((t.stcAsked n a c).written (wordAddr start c) .word (refCopWord r (a.crd.toNat + c)) false) where
  keeps := ((hd.keeps.trans (evolves_called _ _)).trans (evolves_called _ _)).trans (evolves_written _ _ _ _ _)
  regs := hd.regs
  coprocs := hd.coprocs
  mem := by
    rw [List.range_succ, List.map_append, List.map_singleton, Memory.writeWords_concat, List.length_map, List.length_range, ← hd.mem]
    rfl
  tick := congrArg (· + 3) hd.tick
  events := by
    rw [stcEvents_succ, ← List.append_assoc, ← hd.events]
    simp [State.written, State.stcAsked, truncateTo]

/-- The loop after `c` words that the port allowed. -/
theorem stcLoop_stores (hc : s.cop n = some ⟨h, .reference r⟩) (hle : c ≤ transferWords a)
    (hcode : ∀ j, j < c →
      laterPortCode (3 * j + 3) s (s.writeAccess (wordAddr start j) .word (refCopWord r (a.crd.toNat + j)) false) = 0) : ∃ t,
    stcLoop n a 4 0 start (s.called (acceptEvent n a)) = stcLoop n a (4 - c) c (wordAddr start c) t ∧ StcStored n a start r c s t := by
  induction c with
  | zero => exact ⟨_, by rw [wordAddr_zero], stcStored_zero n a start r s⟩
  | succ c ih =>
    obtain ⟨t, hloop, hd⟩ := ih (by omega) fun j hj => hcode j (by omega)
    have hcop : t.cop n = some ⟨h, .reference r⟩ := (cop_congr hd.coprocs n).trans hc
    have hwords := transferWords_le a
    refine ⟨_, ?_, hd.succ⟩
    rw [hloop, show 4 - c = 4 - (c + 1) + 1 by omega, stcLoop_round hcop (by omega),
      memWrite_ok ((hd.writeCode _).trans (hcode c (Nat.lt_succ_self c))), wordAddr_next]

/-- The words that STC stores. -/
def stcValues (a : TransferArgs) (r : RefCop) : List Word := (List.range (transferWords a)).map fun j => refCopWord r (a.crd.toNat + j)

theorem stcValues_length (a : TransferArgs) (r : RefCop) : (stcValues a r).length = transferWords a := by
  rw [stcValues, List.length_map, List.length_range]

theorem stcValues_get {a : TransferArgs} {r : RefCop} {j : Nat} (hj : j < transferWords a) :
    (stcValues a r)[j]? = some (refCopWord r (a.crd.toNat + j)) := by
  rw [stcValues, List.getElem?_map, List.getElem?_range hj]
  rfl

theorem stcSteps_loop (hc : s.cop n = some ⟨h, .reference r⟩) (hh : stcHooks h = true) (hcrd : a.crd.toNat < 8) (huopt : a.uopt = false)
    (p u w : Bool) (base : Word) (rn : BitVec 4) (hstart : start = transferStart p u base a.imm8) : stcSteps p u w base rn n a s =
      (stcLoop n a 4 0 start (s.called (acceptEvent n a))).finish fun s' =>
        advance (s'.writeBack w rn (offsetAddress u base (a.imm8.setWidth 32 <<< 2))) := by
  have haccept : (hookAccept s n a).1 = true := by rw [hookAccept_reference hc, huopt, decide_eq_true hcrd]; rfl
  rw [stcSteps_accepted p u w base rn (copWith_of_cop hc hh) haccept, ← hstart]
  rfl

/-- What STC leaves before its write-back, with every word stored. -/
theorem stcSteps_ok (hport : PlainMemory s) (hc : s.cop n = some ⟨h, .reference r⟩) (hh : stcHooks h = true) (hcrd : a.crd.toNat < 8)
    (huopt : a.uopt = false) (p u w : Bool) (base : Word) (rn : BitVec 4) (hstart : start = transferStart p u base a.imm8) : ∃ t,
      stcSteps p u w base rn n a s = advance (t.writeBack w rn (offsetAddress u base (a.imm8.setWidth 32 <<< 2))) ∧
      Evolves s t ∧ t.regs = s.regs ∧ t.coprocs = s.coprocs ∧ t.mem = s.mem.writeWords start (stcValues a r) ∧
      t.events = s.events ++ stcEvents n a start (fun j => refCopWord r (a.crd.toNat + j)) (transferWords a) ++
        [doneEvent n a (transferWords a)] := by
  obtain ⟨t, hloop, hd⟩ := stcLoop_stores (a := a) (start :=
    start) hc (Nat.le_refl (transferWords a)) fun j _ => hport.laterPortCode (3 * j + 3) _
  have hcop : t.cop n = some ⟨h, .reference r⟩ := (cop_congr hd.coprocs n).trans hc
  have hdone : (hookDone t n a (transferWords a)).1 = true := by rw [hookDone_eq hcop]; exact decide_eq_true (Nat.le_refl _)
  refine ⟨t.called (doneEvent n a (transferWords a)), ?_, hd.keeps.trans (evolves_called _ _), hd.regs, hd.coprocs, hd.mem, ?_⟩
  · rw [stcSteps_loop hc hh hcrd huopt p u w base rn hstart, hloop, stcLoop_done hdone, hookDone_eq hcop]
    rfl
  · rw [State.called_events, hd.events]

/-- What STC leaves when the port refuses a word (R324, D14). -/
theorem stcSteps_fault (hmem : s.mem.wf = true) (hc : s.cop n = some ⟨h, .reference r⟩) (hh : stcHooks h = true) (hcrd : a.crd.toNat < 8)
    (huopt : a.uopt = false) (p u w : Bool) (base : Word) (rn : BitVec 4) (hstart : start = transferStart p u base a.imm8) {k code : Nat}
    (hfails : WriteFails (fun j => 3 * j + 3) start (stcValues a r) k code s) : ∃ t, stcSteps p u w base rn n a s = .next t ∧
      FaultsAfter code (stcEvents n a start (fun j => refCopWord r (a.crd.toNat + j)) (k + 1)) s t ∧
        StoredUpTo start (stcValues a r) k s t := by
  obtain ⟨hne, hk, hcodes⟩ := hfails
  have hlength := stcValues_length a r
  have hwords := transferWords_le a
  obtain ⟨t, hloop, hd⟩ := stcLoop_stores (a := a) (start := start) (c := k) hc (by omega)
    fun j hj => (hcodes j _ (stcValues_get (by omega))).1 hj
  have hcop : t.cop n = some ⟨h, .reference r⟩ := (cop_congr hd.coprocs n).trans hc
  have hkeeps : Evolves s (t.stcAsked n a k) := (hd.keeps.trans (evolves_called _ _)).trans (evolves_called _ _)
  have hevents : (t.stcAsked n a k).events = s.events ++ (stcEvents n a start (fun j => refCopWord r (a.crd.toNat + j)) k ++
      [doneEvent n a k, .hook n (.ldcstcRead k a.d a.crd a.uopt a.imm8)]) := by
    rw [State.stcAsked, State.called_events, State.called_events, hd.events]
    simp only [List.append_assoc, List.cons_append, List.nil_append]
  have hfault := hkeeps.faultsAfter hevents (.write (wordAddr start k) .word (refCopWord r (a.crd.toNat + k)) false) code
  rw [List.append_assoc] at hfault
  have htake : (stcValues a r).take k = (List.range k).map fun j => refCopWord r (a.crd.toNat + j) := by
    rw [stcValues, ← List.map_take, List.take_range, Nat.min_eq_left (by omega)]
  have hmemory : t.mem = s.mem.writeWords start ((stcValues a r).take k) := by rw [htake]; exact hd.mem
  have hlen : ((stcValues a r).take k).length = k := by rw [List.length_take, Nat.min_eq_left hk.le]
  rw [stcSteps_loop hc hh hcrd huopt p u w base rn hstart, hloop, show 4 - k = 4 - (k + 1) + 1 by omega, stcLoop_round hcop (by omega),
    memWrite_refused ((hd.writeCode _).trans ((hcodes k _ (stcValues_get (by omega))).2 rfl)) hne, stcEvents_succ]
  refine ⟨_, rfl, hfault, fun j x hj hx => ?_, fun b hb => ?_, .of_regs hd.regs, hd.coprocs⟩
  · show t.mem.read32 _ = x
    rw [hmemory]
    exact Memory.read32_writeWords hmem (by omega) (by rw [List.getElem?_take_of_lt hj, hx])
  · show t.mem.read8 b = _
    rw [hmemory]
    exact Memory.read8_writeWords_ne _ (by omega) (by rwa [hlen])

end

/-- Settles O48. -/
theorem stcResult : Obligations.StcResult := by
  intro cond p u d w rn crd n v s h r start words hmem hrn hcond hc hh hcrd hpw hwords hstart
  obtain rfl : words = transferWords ⟨d, crd, false, v⟩ := hwords
  have hle := transferWords_le ⟨d, crd, false, v⟩
  have hlength := stcValues_length ⟨d, crd, false, v⟩ r
  rw [exec_stc_eq hcond hrn, unindexed_eq_false hpw]
  refine ⟨fun hport => ?_, fun k code values hvalues hfails => ?_⟩
  · obtain ⟨t, ht, hkeeps, hregs, hcops, hmemory, hevents⟩ := stcSteps_ok (a := ⟨d, crd, false,
      v⟩) hport hc hh hcrd rfl p u w (s.x rn) rn hstart
    have hend := hkeeps.trans (evolves_writeBack t w rn (offsetAddress u (s.x rn) (v.setWidth 32 <<< 2)))
    rw [ht]
    refine ⟨_, hend.advance, hend.okAt _, fun k hk => ?_, fun b hb => ?_, fun hw => ?_, ?_, hend.sameStatus, ?_, ?_⟩
    · rw [State.ended_mem, State.writeBack_mem, hmemory]
      exact Memory.read32_writeWords hmem (by omega) (stcValues_get hk)
    · rw [State.ended_mem, State.writeBack_mem, hmemory]
      exact Memory.read8_writeWords_ne _ (by omega) (by rwa [hlength])
    · rw [State.x_ended _ _ hrn, State.x_writeBack_self _ _ hw hrn]
    · exact SameRegsBut.writeBack (ns := []) (s := s) (.of_regs hregs) hkeeps.mode w rn _
    · rw [SameCoprocs, State.ended_coprocs, State.writeBack_coprocs, hcops]
    · rw [State.ended_events, State.writeBack_events, hevents]
  · obtain rfl : values = stcValues ⟨d, crd, false, v⟩ r := hvalues
    exact stcSteps_fault (a := ⟨d, crd, false, v⟩) hmem hc hh hcrd rfl p u w (s.x rn) rn hstart hfails

end Sys2Proof.Machine
end

/-! ## Proofs: the decoder's entries, the step, the harness -/

section
/-! What comes before an instruction runs: the fixed words, the two entries of the hypercall space, the preconditions; and the run of the
reference harness, whose every invocation starts in a state of the invariant. -/

namespace Sys2Proof.Machine

/-! ### The entries of the decoder -/

/-- Settles O18: each word is one evaluation of the decoder. -/
theorem decodeWords : Obligations.DecodeWords := ⟨rfl, rfl, rfl, rfl, rfl, rfl, rfl, rfl, rfl, rfl, rfl, rfl, rfl⟩

/-- The SVC space is bits 27:24 all set. -/
theorem isSvc_fieldsOf (w : Word) : (fieldsOf w).isSvc = decide (w.extractLsb' 24 4 = 15#4) := by
  have hbits : ∀ b : BitVec 4, (b.extractLsb' 1 3 == 7#3 && b.getLsbD 0) = decide (b = 15#4) := by decide
  rw [Fields.isSvc, fieldsOf_group_eq, fieldsOf_b24_eq, hbits]

/-- The native entry reaches the hypercall forms in the SVC space. -/
theorem decodeFields_svc (forms : HypForms) (hyp : Bool) {f : Fields} (h : f.isSvc = true) : decodeFields forms hyp f = forms f := by
  have hgroup : f.group = 7#3 := by
    simp only [Fields.isSvc, Bool.and_eq_true, beq_iff_eq] at h
    exact h.1
  cases hyp <;> simp [decodeFields, decodeNative, decodeCoproc, h, hgroup]

theorem decodeFields_hypFlag_outside (forms : HypForms) {f : Fields} (h : f.isSvc = false) :
    decodeFields forms true f = .error .hypFlagOutsideSvc := by
  simp [decodeFields, h]

/-- The reading of another build, with its three conditions as a conjunction. -/
theorem buildForms_eq (n : Nat) (f : Fields) : buildForms n f =
    match Config.hypForm n f.cond f.imm24 with
    | some i => if i.isHypercall = true ∧ i.wellFormed = true ∧ i.cond = f.cond then .ok i else .error .hypNoForm
    | none => .error .hypNoForm := by
  unfold buildForms
  cases Config.hypForm n f.cond f.imm24 with
  | some i => simp [and_assoc]
  | none => rfl

theorem fieldsOf_imm24 (w : Word) : (fieldsOf w).imm24 = w.extractLsb' 0 24 := by
  simp only [Fields.imm24, Fields.imm12, fieldsOf, ofBool_getLsbD]
  repeat rw [BitVec.extractLsb'_append_extractLsb'_eq_extractLsb' (by rfl)]

/-- Settles O19: both entries give the hypercall forms in the SVC space, and no layout has a part outside it. -/
theorem hypercallEntries : Obligations.HypercallEntries := by
  refine ⟨fun layout w => ⟨fun h => ?_, fun h => ?_⟩, decodeIn_h0, fun n w h => ?_⟩
  · have hsvc : (fieldsOf w).isSvc = true := by rw [isSvc_fieldsOf, h]; rfl
    rw [decodeIn, decodeIn, decodeFields_svc _ _ hsvc, decodeFields_svc _ _ hsvc]
  · have hsvc : (fieldsOf w).isSvc = false := by rw [isSvc_fieldsOf, decide_eq_false h]
    exact ⟨decodeFields_hypFlag_outside _ hsvc, decodeFields_of_not_svc _ false _ hsvc⟩
  · have hsvc : (fieldsOf w).isSvc = true := by rw [isSvc_fieldsOf, h]; rfl
    rw [decodeIn, decodeFields_svc _ _ hsvc, hypForms, buildForms_eq, fieldsOf_imm24]
    rfl

/-! ### The step -/

/-- Settles O20. -/
theorem stepRunsDecoded : Obligations.StepRunsDecoded := fun _ _ hrun hmode hpage hdec =>
  step_of_decodeIn_ok (precondition_eq_none hrun hmode hpage) hdec

theorem step_of_decodeIn_error {s : State} {why : DecodeReject} (hpre : precondition s = none)
    (hdec : decodeIn s.hypLayout s.hyp (s.mem.read32 s.pc) = .error why) : step s = refuse s.begin (.unmapped why) := by
  simp [step, fetchWord, hpre, hdec]

theorem step_of_precondition {s : State} {why : Refusal} (hpre : precondition s = some why) : step s = .refused why := by
  simp [step, hpre]

/-- Settles O21: a word without an instruction is refused like an instruction; each precondition has its own name. -/
theorem stepRefuses : Obligations.StepRefuses := by
  refine ⟨fun s why hrun hmode hpage hdec => ?_, fun s hhalted => ?_, fun s hrun hmode => ?_, fun s hrun hmode hpage => ?_⟩
  · rw [step_of_decodeIn_error (precondition_eq_none hrun hmode hpage) hdec]
    exact refuse_halts s.begin (.unmapped why)
  · exact step_of_precondition (by simp [precondition, hhalted])
  · exact step_of_precondition (by simp [precondition, hrun, hmode])
  · exact step_of_precondition (by simp [precondition, hrun, hmode, hpage])

/-! ### The reference harness -/

/-- What follows an invocation in the harness. -/
theorem runHarness_succ_of_next {n : Nat} {s t : State} (h : harnessInvoke s = .next t) :
    (t.result = some .ok → runHarness (n + 1) s =
      ⟨(s.mem.read32 s.pc, some .ok) :: (runHarness n t).trace, (runHarness n t).state, (runHarness n t).stop⟩) ∧
    (t.result ≠ some .ok → runHarness (n + 1) s = ⟨[(s.mem.read32 s.pc, t.result)], t, .notOk⟩) := by
  rw [runHarness, h]
  exact ⟨fun hok => by simp [hok, HarnessRun.cons, fetchWord], fun hok => by simp [hok, fetchWord]⟩

/-- The port and the coprocessors behind it are as the harness has them, however an invocation ends. -/
theorem Ended.harnessPorts {i : Instr} {s t : State} {out : Out} (h : Ended i s out) (hs : HarnessPorts s) (hout : out = .next t) :
    HarnessPorts t := by
  have hkept {made : List Event} {r : State} (hr : Runs made s r) : HarnessPorts r :=
    ⟨hr.keeps.port ▸ hs.memory, hr.references hs.coprocs⟩
  cases h with
  | refused why => cases hout; exact ⟨hs.memory, hs.coprocs⟩
  | refusedRfe cond p u w rn addr why _ => cases hout; exact ⟨hs.memory, hs.coprocs⟩
  | ok target cpsr spsr events hruns _ => cases hout; exact ⟨(hkept hruns).memory, (hkept hruns).coprocs⟩
  | fault hcall =>
    cases hout
    obtain ⟨made, r, e, hruns, rfl, _⟩ := hcall
    exact ⟨(hkept hruns).memory, (hkept hruns).coprocs⟩
  | undef hi hhooks hruns hsame => cases hout; exact ⟨(hkept hruns).memory, (hkept hruns).coprocs⟩
  | endless hi hs => cases hout

/-- In the invariant the vCPU runs on after any result but Unpredictable. -/
theorem Inv.running {t : State} (h : Inv t) (hok : t.result = some .ok) : t.halted = false := by
  rw [← Bool.not_eq_true, h.halted]
  rintro ⟨why, hwhy⟩
  rw [hok] at hwhy
  cases hwhy

/-- A step from a running state of the invariant with the harness's ports ends with a result, in such a state. -/
theorem step_of_inv {s : State} (hinv : Inv s) (hports : HarnessPorts s) (hrun : s.halted = false) :
    ∃ t k, step s = .next t ∧ t.result = some k ∧ Inv t ∧ HarnessPorts t := by
  suffices hstep : ∃ t k, step s = .next t ∧ t.result = some k ∧ HarnessPorts t by
    obtain ⟨t, k, ht, hk, hp⟩ := hstep
    exact ⟨t, k, ht, hk, stepKeepsInv s t hinv ht, hp⟩
  have hpre := precondition_eq_none hrun hinv.mode hinv.page
  cases hdec : decodeIn s.hypLayout s.hyp (s.mem.read32 s.pc) with
  | error why =>
    rw [step_of_decodeIn_error hpre hdec]
    exact ⟨_, _, rfl, rfl, hports.memory, hports.coprocs⟩
  | ok i =>
    rw [step_of_decodeIn_ok hpre hdec]
    obtain ⟨t, ht, hresult⟩ := invocationEnds i s.begin (.inr hports.coprocs)
    obtain ⟨k, hk⟩ := Option.isSome_iff_exists.1 hresult
    exact ⟨t, k, ht, hk, (exec_ended i s.begin).harnessPorts ⟨hports.memory, hports.coprocs⟩ ht⟩

theorem harnessInvoke_of_inv {s : State} (hinv : Inv s) (hports : HarnessPorts s) (hrun : s.halted = false) :
    ∃ t k, harnessInvoke s = .next t ∧ t.result = some k ∧ Inv t ∧ HarnessPorts t :=
  step_of_inv (s := { s with hyp := false }) ⟨hinv.mode, hinv.mem, hinv.cops, hinv.page, hinv.halted⟩ ⟨hports.memory, hports.coprocs⟩ hrun

/-- A run that was asked for `n` invocations made them all, all Ok, or stopped at the first that was not. -/
def RunEnds (n : Nat) (r : HarnessRun) : Prop :=
  (r.stop = .maxSteps ∧ r.trace.length = n ∧ ∀ e ∈ r.trace, e.2 = some .ok) ∨
    (r.stop = .notOk ∧ r.trace.length ≤ n ∧
      ∃ (before : List (Word × Option ResultKind)) (w : Word) (k : ResultKind),
        r.trace = before ++ [(w, some k)] ∧ (∀ e ∈ before, e.2 = some .ok) ∧ k ≠ .ok ∧ r.state.result = some k)

/-- One more Ok invocation before the run. -/
theorem RunEnds.cons {n : Nat} {r : HarnessRun} (h : RunEnds n r) (w : Word) :
    RunEnds (n + 1) ⟨(w, some .ok) :: r.trace, r.state, r.stop⟩ := by
  have hcons {l : List (Word × Option ResultKind)} (hl : ∀ e ∈ l, e.2 = some .ok) : ∀ e ∈ (w, some .ok) :: l, e.2 = some .ok :=
    List.forall_mem_cons.2 ⟨rfl, hl⟩
  obtain ⟨hstop, hlen, hall⟩ | ⟨hstop, hlen, before, w', k, htrace, hall, hk, hresult⟩ := h
  · exact .inl ⟨hstop, by simp [hlen], hcons hall⟩
  · exact .inr ⟨hstop, by simpa using hlen, (w, some .ok) :: before, w', k, by simp [htrace], hcons hall, hk, hresult⟩

theorem runHarness_of_inv (n : Nat) (s : State) (hinv : Inv s) (hports : HarnessPorts s) (hrun : s.halted = false) :
    Inv (runHarness n s).state ∧ HarnessPorts (runHarness n s).state ∧ RunEnds n (runHarness n s) := by
  induction n generalizing s with
  | zero => exact ⟨hinv, hports, .inl ⟨rfl, rfl, by simp⟩⟩
  | succ n ih =>
    obtain ⟨t, k, ht, hk, hinvt, hportst⟩ := harnessInvoke_of_inv hinv hports hrun
    obtain ⟨hgo, hstop⟩ := runHarness_succ_of_next (n := n) ht
    by_cases hok : t.result = some .ok
    · obtain ⟨hi, hp, hends⟩ := ih t hinvt hportst (hinvt.running hok)
      rw [hgo hok]
      exact ⟨hi, hp, hends.cons _⟩
    · rw [hstop hok]
      exact ⟨hinvt, hportst, .inr ⟨rfl, by simp, [], s.mem.read32 s.pc, k, by simp [hk], by simp, fun h => hok (h ▸ hk), hk⟩⟩

theorem harnessStart_coprocessor {numbers : List (BitVec 4)} {image : List (Word × Word)} {n : BitVec 4} {o : CopObject}
    (h : (harnessStart numbers image).cop n = some o) : o = ⟨Hooks.all, .reference RefCop.reset⟩ := by
  rw [cop_harnessStart] at h
  split at h <;> cases h
  rfl

theorem inv_harnessStart (numbers : List (BitVec 4)) (image : List (Word × Word)) : Inv (harnessStart numbers image) where
  mode := resetInv.mode
  mem := Memory.wf_placeImage image _ resetInv.mem
  cops := fun n => by
    rw [cop_harnessStart]
    split <;> rfl
  page := resetInv.page
  halted := resetInv.halted

theorem harnessPorts_harnessStart (numbers : List (BitVec 4)) (image : List (Word × Word)) : HarnessPorts (harnessStart numbers image) where
  memory := ⟨_, _, rfl⟩
  coprocs := fun _ _ h => ⟨_, congrArg CopObject.unit (harnessStart_coprocessor h)⟩

/-- Settles O60: a run is an induction on the invocations asked for. -/
theorem referenceHarness : Obligations.ReferenceHarness := by
  refine ⟨runHarness_zero, fun n s t i hrun hmode hpage hdec hexec => ?_, fun n s why hrun hmode hpage hdec => ?_, runHarness_of_inv,
    fun numbers image => ⟨inv_harnessStart numbers image, harnessPorts_harnessStart numbers image, rfl⟩⟩
  · have hinvoke : harnessInvoke s = .next t :=
      (step_of_decodeIn_ok (s := { s with hyp := false }) (precondition_eq_none hrun hmode hpage) hdec).trans hexec
    obtain ⟨hgo, hstop⟩ := runHarness_succ_of_next (n := n) hinvoke
    exact ⟨hgo, hstop⟩
  · obtain ⟨t, ht, hhalts⟩ := refuse_halts { s.begin with hyp := false } (.unmapped why)
    have hinvoke : harnessInvoke s = .next t :=
      (step_of_decodeIn_error (s := { s with hyp := false }) (precondition_eq_none hrun hmode hpage) hdec).trans ht
    obtain ⟨_, hstop⟩ := runHarness_succ_of_next (n := n) hinvoke
    obtain ⟨r, hr⟩ := hhalts.result
    exact ⟨t, hhalts, hstop (by simp [hr])⟩

end Sys2Proof.Machine
end

/-! ## Proofs: what the decoder reads (R91, R106, R107, R117) -/

section
/-! The columns of a word bit for bit, and what each format of the encoder makes of columns: operands that span several columns are slices of
the word, so cutting them gives the columns back. -/

namespace Sys2Proof

/-! ### Columns under a mask -/

/-- Column by column, the bits that both have. -/
def Fields.and (f g : Fields) : Fields where
  cond := f.cond &&& g.cond
  group := f.group &&& g.group
  b24 := f.b24 && g.b24
  b23 := f.b23 && g.b23
  b22 := f.b22 && g.b22
  b21 := f.b21 && g.b21
  b20 := f.b20 && g.b20
  f19 := f.f19 &&& g.f19
  f15 := f.f15 &&& g.f15
  f11 := f.f11 &&& g.f11
  b7 := f.b7 && g.b7
  f6 := f.f6 &&& g.f6
  b4 := f.b4 && g.b4
  f3 := f.f3 &&& g.f3

theorem fieldsOf_and (v w : Word) : fieldsOf (v &&& w) = (fieldsOf v).and (fieldsOf w) := by
  simp only [fieldsOf, Fields.and, BitVec.extractLsb'_and, BitVec.getLsbD_and]

theorem fieldsOf_injective {v w : Word} (h : fieldsOf v = fieldsOf w) : v = w := by
  rw [← toWord_fieldsOf v, ← toWord_fieldsOf w, h]

theorem exists_fieldsOf (f : Fields) : ∃ w, f = fieldsOf w := ⟨f.toWord, (fieldsOf_toWord f).symm⟩

theorem and_ones2 (x : BitVec 2) : x &&& 3#2 = x := by
  revert x
  decide

theorem and_ones3 (x : BitVec 3) : x &&& 7#3 = x := by
  revert x
  decide

theorem and_ones4 (x : BitVec 4) : x &&& 15#4 = x := by
  revert x
  decide

/-! ### Operands as slices of the word -/

section
variable (w : Word)

theorem fieldsOf_imm12 : (fieldsOf w).imm12 = w.extractLsb' 0 12 := by
  simp only [Fields.imm12, fieldsOf, ofBool_getLsbD]
  repeat rw [BitVec.extractLsb'_append_extractLsb'_eq_extractLsb' (by rfl)]

theorem fieldsOf_imm8 : (fieldsOf w).imm8 = w.extractLsb' 0 8 := by
  simp only [Fields.imm8, fieldsOf, ofBool_getLsbD]
  repeat rw [BitVec.extractLsb'_append_extractLsb'_eq_extractLsb' (by rfl)]

theorem getLsbD_slice {n : Nat} (w : BitVec n) {start len k : Nat} (h : k < len) :
    (w.extractLsb' start len).getLsbD k = w.getLsbD (start + k) := by
  rw [BitVec.getLsbD_extractLsb', decide_eq_true h, Bool.true_and]

theorem slice_slice {n : Nat} (w : BitVec n) {start len k m : Nat} (h : k + m ≤ len) :
    (w.extractLsb' start len).extractLsb' k m = w.extractLsb' (start + k) m := by
  refine BitVec.eq_of_getLsbD_eq fun i hi => ?_
  rw [getLsbD_slice _ hi, getLsbD_slice _ hi, BitVec.getLsbD_extractLsb', decide_eq_true (by omega), Bool.true_and, Nat.add_assoc]

end

section
variable (f : Fields)

theorem withImm12_columns : f.withImm12 f.imm12 = f := by
  obtain ⟨w, rfl⟩ := exists_fieldsOf f
  rw [fieldsOf_imm12]
  simp only [Fields.withImm12, fieldsOf, slice_slice w (by decide : 8 + 4 ≤ 12),
    slice_slice w (by decide : 5 + 2 ≤ 12),
    slice_slice w (by decide : 0 + 4 ≤ 12), getLsbD_slice w (by decide : 7 < 12),
    getLsbD_slice w (by decide : 4 < 12), Nat.zero_add]

theorem imm12_columns : f.imm12.extractLsb' 8 4 = f.f11 ∧ f.imm12.getLsbD 7 = f.b7 ∧ f.imm12.extractLsb' 5 2 = f.f6 ∧
    f.imm12.getLsbD 4 = f.b4 ∧ f.imm12.extractLsb' 0 4 = f.f3 := by
  have hcolumns := withImm12_columns f
  exact ⟨congrArg Fields.f11 hcolumns, congrArg Fields.b7 hcolumns, congrArg Fields.f6 hcolumns, congrArg Fields.b4 hcolumns,
    congrArg Fields.f3 hcolumns⟩

/-- Columns 31:12 with the twelve low bits of the columns. -/
theorem highFields_columns : (highFields f.cond f.group f.b24 f.b23 f.b22 f.b21 f.b20 f.f19 f.f15).withImm12 f.imm12 = f :=
  withImm12_columns f

theorem regList_high : f.regList.extractLsb' 12 4 = f.f15 := BitVec.extractLsb'_append_eq_left

theorem regList_low : f.regList.extractLsb' 0 12 = f.imm12 := BitVec.extractLsb'_append_eq_right

theorem imm16_high : f.imm16.extractLsb' 12 4 = f.f19 := BitVec.extractLsb'_append_eq_left

theorem imm16_low : f.imm16.extractLsb' 0 12 = f.imm12 := BitVec.extractLsb'_append_eq_right

theorem splitImm8_high : f.splitImm8.extractLsb' 4 4 = f.f11 := BitVec.extractLsb'_append_eq_left

theorem splitImm8_low : f.splitImm8.extractLsb' 0 4 = f.f3 := BitVec.extractLsb'_append_eq_right

theorem imm5_high : f.imm5.extractLsb' 1 4 = f.f11 := BitVec.extractLsb'_append_eq_left

theorem imm5_low : f.imm5.getLsbD 0 = f.b7 := by
  have hlast : ∀ (a : BitVec 4) (b : Bool), (a ++ BitVec.ofBool b).getLsbD 0 = b := by decide
  exact hlast f.f11 f.b7

theorem f11_append_imm8 : f.f11 ++ f.imm8 = f.imm12 := by
  obtain ⟨w, rfl⟩ := exists_fieldsOf f
  rw [fieldsOf_imm12, fieldsOf_imm8]
  exact BitVec.extractLsb'_append_extractLsb'_eq_extractLsb' (by rfl)

end

/-! ### The formats -/

section
variable {f : Fields} {p u s w l : Bool}

theorem encDpi_columns (hg : f.group = 1#3) (h24 : f.b24 = p) (h23 : f.b23 = u) (h22 : f.b22 = s) (h21 : f.b21 = w) :
    encDpi f.cond p u s w f.b20 f.f19 f.f15 f.imm12 = f := by
  subst h24 h23 h22 h21
  rw [encDpi, ← hg, highFields_columns]

theorem encDpr_columns (hg : f.group = 0#3) (hb4 : f.b4 = false) (h24 : f.b24 = p) (h23 : f.b23 = u) (h22 : f.b22 = s) (h21 : f.b21 = w) :
    encDpr f.cond p u s w f.b20 f.f19 f.f15 f.imm5 f.f6 f.f3 = f := by
  subst h24 h23 h22 h21
  rw [encDpr, imm5_high, imm5_low, ← hg, ← hb4]

theorem encLsi_columns (hg : f.group = 2#3) (h24 : f.b24 = p) (h22 : f.b22 = s) (h21 : f.b21 = w) (h20 : f.b20 = l)
    {rn : BitVec 4} (h19 : f.f19 = rn) : encLsi f.cond p f.b23 s w l rn f.f15 f.imm12 = f := by
  subst h24 h22 h21 h20 h19
  rw [encLsi, ← hg, highFields_columns]

theorem encLsr_columns (hg : f.group = 3#3) (hb4 : f.b4 = false) (h24 : f.b24 = p) (h22 : f.b22 = s) (h21 : f.b21 = w) (h20 : f.b20 = l) :
    encLsr f.cond p f.b23 s w l f.f19 f.f15 f.imm5 f.f6 f.f3 = f := by
  subst h24 h22 h21 h20
  rw [encLsr, imm5_high, imm5_low, ← hg, ← hb4]

theorem encExtra_columns (hg : f.group = 0#3) (h7 : f.b7 = true) (hb4 : f.b4 = true) (h24 : f.b24 = p) (h22 : f.b22 = s) (h21 : f.b21 = w)
    (h20 : f.b20 = l) {op : BitVec 2} (h6 : f.f6 = op) : encExtra f.cond p f.b23 s w l op f.f19 f.f15 f.f11 f.f3 = f := by
  cases f
  simp_all [encExtra]

theorem encBlk_columns (hg : f.group = 4#3) (h24 : f.b24 = p) (h23 : f.b23 = u) (h22 : f.b22 = s) (h20 : f.b20 = l) :
    encBlk f.cond p u s f.b21 l f.f19 f.regList = f := by
  subst h24 h23 h22 h20
  rw [encBlk, regList_high, regList_low, ← hg, highFields_columns]

theorem imm24_columns : (highFields f.cond f.group f.b24 (f.imm24.getLsbD 23) (f.imm24.getLsbD 22) (f.imm24.getLsbD 21) (f.imm24.getLsbD 20)
    (f.imm24.extractLsb' 16 4) (f.imm24.extractLsb' 12 4)).withImm12 (f.imm24.extractLsb' 0 12) = f := by
  have hlow : f.imm24.extractLsb' 0 12 = f.imm12 := BitVec.extractLsb'_append_eq_right
  rw [hlow]
  obtain ⟨w, rfl⟩ := exists_fieldsOf f
  simp only [Machine.fieldsOf_imm24, getLsbD_slice w (by decide : 23 < 24), getLsbD_slice w (by decide : 22 < 24),
    getLsbD_slice w (by decide : 21 < 24), getLsbD_slice w (by decide : 20 < 24),
    slice_slice w (by decide : 16 + 4 ≤ 24),
    slice_slice w (by decide : 12 + 4 ≤ 24), Nat.zero_add]
  exact highFields_columns (fieldsOf w)

theorem encBr_columns (hg : f.group = 5#3) (h24 : f.b24 = l) : encBr f.cond l f.imm24 = f := by
  subst h24
  rw [encBr, ← hg, imm24_columns]

theorem encCpls_columns (hg : f.group = 6#3) (h24 : f.b24 = p) (h23 : f.b23 = u) (h22 : f.b22 = s) (h21 : f.b21 = w) (h20 : f.b20 = l)
    {rn : BitVec 4} (h19 : f.f19 = rn) : encCpls f.cond p u s w l rn f.f15 f.f11 f.imm8 = f := by
  subst h24 h23 h22 h21 h20 h19
  rw [encCpls, f11_append_imm8, ← hg, highFields_columns]

theorem encCprr_columns (hg : f.group = 6#3) (h24 : f.b24 = false) (h23 : f.b23 = false) (h22 : f.b22 = true) (h21 : f.b21 = false)
    (h20 : f.b20 = l) : encCprr f.cond l f.f19 f.f15 f.f11 (BitVec.ofBool f.b7 ++ f.f6 ++ BitVec.ofBool f.b4) f.f3 = f := by
  have hlow : f.f11 ++ (BitVec.ofBool f.b7 ++ f.f6 ++ BitVec.ofBool f.b4) ++ f.f3 = f.imm12 := by
    obtain ⟨w, rfl⟩ := exists_fieldsOf f
    rw [fieldsOf_imm12]
    simp only [fieldsOf, ofBool_getLsbD]
    repeat rw [BitVec.extractLsb'_append_extractLsb'_eq_extractLsb' (by rfl)]
  have hcolumns := highFields_columns f
  rw [hg, h24, h23, h22, h21, h20] at hcolumns
  rw [encCprr, hlow]
  exact hcolumns

theorem bits_of_join4 (a b c d : Bool) : (BitVec.ofBool a ++ BitVec.ofBool b ++ BitVec.ofBool c ++ BitVec.ofBool d).getLsbD 3 = a ∧
    (BitVec.ofBool a ++ BitVec.ofBool b ++ BitVec.ofBool c ++ BitVec.ofBool d).getLsbD 2 = b ∧
    (BitVec.ofBool a ++ BitVec.ofBool b ++ BitVec.ofBool c ++ BitVec.ofBool d).getLsbD 1 = c ∧
    (BitVec.ofBool a ++ BitVec.ofBool b ++ BitVec.ofBool c ++ BitVec.ofBool d).getLsbD 0 = d := by
  revert a b c d
  decide

theorem bits_of_join3 (a b c : Bool) : (BitVec.ofBool a ++ BitVec.ofBool b ++ BitVec.ofBool c).getLsbD 2 = a ∧
    (BitVec.ofBool a ++ BitVec.ofBool b ++ BitVec.ofBool c).getLsbD 1 = b ∧
    (BitVec.ofBool a ++ BitVec.ofBool b ++ BitVec.ofBool c).getLsbD 0 = c := by
  revert a b c
  decide

theorem bits_of_opc2 (a : Bool) (v : BitVec 2) :
    (BitVec.ofBool a ++ v).getLsbD 2 = a ∧ (BitVec.ofBool a ++ v).extractLsb' 0 2 = v := by
  revert a v
  decide

theorem encCpdp_columns (hg : f.group = 7#3) (h24 : f.b24 = false) (hb4 : f.b4 = false) :
    encCpdp f.cond (BitVec.ofBool f.b23 ++ BitVec.ofBool f.b22 ++ BitVec.ofBool f.b21 ++ BitVec.ofBool f.b20) f.f19 f.f15 f.f11
      (BitVec.ofBool f.b7 ++ f.f6) f.f3 = f := by
  obtain ⟨h3, h2, h1, h0⟩ := bits_of_join4 f.b23 f.b22 f.b21 f.b20
  obtain ⟨h7, h6⟩ := bits_of_opc2 f.b7 f.f6
  rw [encCpdp, h3, h2, h1, h0, h7, h6]
  cases f
  simp_all

theorem encCprt_columns (hg : f.group = 7#3) (h24 : f.b24 = false) (hb4 : f.b4 = true) (h20 : f.b20 = l) :
    encCprt f.cond l (BitVec.ofBool f.b23 ++ BitVec.ofBool f.b22 ++ BitVec.ofBool f.b21) f.f19 f.f15 f.f11 (BitVec.ofBool f.b7 ++ f.f6)
      f.f3 = f := by
  obtain ⟨h3, h2, h1⟩ := bits_of_join3 f.b23 f.b22 f.b21
  obtain ⟨h7, h6⟩ := bits_of_opc2 f.b7 f.f6
  rw [encCprt, h3, h2, h1, h7, h6]
  cases f
  simp_all

theorem mediaSpace_slice {w : Word} {hi : BitVec 20} (hhi : hi = w.extractLsb' 5 20) (hg : (fieldsOf w).group = 3#3)
    (hb4 : (fieldsOf w).b4 = true) : encodeFields (.mediaSpace (fieldsOf w).cond hi (fieldsOf w).f3) = fieldsOf w := by
  simp only [encodeFields, ← hg, ← hb4, hhi, getLsbD_slice w (by decide : 19 < 20), getLsbD_slice w (by decide : 18 < 20),
    getLsbD_slice w (by decide : 17 < 20), getLsbD_slice w (by decide : 16 < 20), getLsbD_slice w (by decide : 15 < 20),
    getLsbD_slice w (by decide : 2 < 20), slice_slice w (by decide : 11 + 4 ≤ 20),
    slice_slice w (by decide : 7 + 4 ≤ 20),
    slice_slice w (by decide : 3 + 4 ≤ 20),
    slice_slice w (by decide : 0 + 2 ≤ 20)]
  rfl

/-- The media space keeps bits 24:5 as one operand. -/
theorem mediaSpace_columns (hg : f.group = 3#3) (hb4 : f.b4 = true) :
    encodeFields (.mediaSpace f.cond (BitVec.ofBool f.b24 ++ BitVec.ofBool f.b23 ++ BitVec.ofBool f.b22 ++ BitVec.ofBool f.b21 ++
      BitVec.ofBool f.b20 ++ f.f19 ++ f.f15 ++ f.f11 ++ BitVec.ofBool f.b7 ++ f.f6) f.f3) = f := by
  obtain ⟨w, rfl⟩ := exists_fieldsOf f
  refine mediaSpace_slice ?_ hg hb4
  simp only [fieldsOf, ofBool_getLsbD]
  repeat rw [BitVec.extractLsb'_append_extractLsb'_eq_extractLsb' (by rfl)]

theorem encHyp_columns (hg : f.group = 7#3) (h24 : f.b24 = true) (h23 : f.b23 = p) (h22 : f.b22 = u) (h21 : f.b21 = w) (h20 : f.b20 = l)
    {v : BitVec 4} (h19 : f.f19 = v) : encHyp f.cond p u w l v f.f15 f.imm12 = f := by
  subst h23 h22 h21 h20 h19
  rw [encHyp, ← hg, ← h24, highFields_columns]

theorem encHypBlock_columns (hg : f.group = 7#3) (h24 : f.b24 = true) (h23 : f.b23 = p) (h22 : f.b22 = u) :
    encHypBlock f.cond p u f.b21 f.b20 f.f19 f.regList = f := by
  rw [encHypBlock, regList_high, regList_low]
  exact encHyp_columns hg h24 h23 h22 rfl rfl rfl

theorem registerOperand_imm12 (hb4 : f.b4 = false) : f.imm5 ++ f.f6 ++ 0#1 ++ f.f3 = f.imm12 := by
  rw [Fields.imm12, hb4]
  rfl

end

end Sys2Proof
end

section
/-! What the decoder answers, demultiplexer by demultiplexer: a term that has an encoding, with the condition of the word, whose encoding is
the word on the bits its row examines. -/

namespace Sys2Proof

/-- The instruction is read from these columns (R91, R106, R117). -/
structure Reads (f : Fields) (i : Instr) : Prop where
  wellFormed : i.wellFormed = true
  cond : i.cond = f.cond
  agrees : (encodeFields i).and (fieldsOf (~~~i.unexamined)) = f.and (fieldsOf (~~~i.unexamined))

/-- A row all of whose bits are examined. -/
theorem Reads.of_encode {f : Fields} {i : Instr} (hw : i.wellFormed = true) (hc : i.cond = f.cond) (he : encodeFields i = f) : Reads f i :=
  ⟨hw, hc, congrArg (Fields.and · _) he⟩

/-- A row with the bits `u` unexamined. -/
theorem Reads.of_agrees {f : Fields} {i : Instr} {u : Word} (hw : i.wellFormed = true) (hc : i.cond = f.cond) (hu : i.unexamined = u)
    (he : (encodeFields i).and (fieldsOf (~~~u)) = f.and (fieldsOf (~~~u))) : Reads f i :=
  ⟨hw, hc, hu ▸ he⟩

section
variable {f : Fields} {i : Instr}

theorem decodeDpi_reads (hg : f.group = 1#3) (h : decodeDpi f = .ok i) : Reads f i := by
  unfold decodeDpi at h
  split at h <;> cases h <;> exact .of_encode rfl rfl (encDpi_columns hg ‹_› ‹_› ‹_› ‹_›)

theorem decodeDpr_reads (hg : f.group = 0#3) (hb4 : f.b4 = false) (h : decodeDpr f = .ok i) : Reads f i := by
  unfold decodeDpr at h
  split at h <;> cases h <;> exact .of_encode rfl rfl (encDpr_columns hg hb4 ‹_› ‹_› ‹_› ‹_›)

/-! ### Halfword, signed, doubleword and exclusive transfers -/

/-- Bits 11:8 left unexamined. -/
theorem and_not_f00 (g : Fields) : g.and (fieldsOf (~~~0xF00#32)) = { g with f11 := 0#4 } := by
  have hmask : fieldsOf (~~~0xF00#32) = ⟨15#4, 7#3, true, true, true, true, true, 15#4, 15#4, 0#4, true, 3#2, true, 15#4⟩ := rfl
  rw [hmask]
  simp [Fields.and, and_ones2, and_ones3, and_ones4]

/-- Bits 11:8 and 3:0 left unexamined. -/
theorem and_not_f0f (g : Fields) : g.and (fieldsOf (~~~0xF0F#32)) = { g with f11 := 0#4, f3 := 0#4 } := by
  have hmask : fieldsOf (~~~0xF0F#32) = ⟨15#4, 7#3, true, true, true, true, true, 15#4, 15#4, 0#4, true, 3#2, true, 0#4⟩ := rfl
  rw [hmask]
  simp [Fields.and, and_ones2, and_ones3, and_ones4]

section
variable {p w l u : Bool} {op : BitVec 2} {rn : BitVec 4}

/-- Bits 11:8 and 3:0 from the two halves of an immediate. -/
theorem encExtra_splitImm8 (hg : f.group = 0#3) (h7 : f.b7 = true) (hb4 : f.b4 = true) (h24 : f.b24 = p) (h22 : f.b22 = u)
    (h21 : f.b21 = w) (h20 : f.b20 = l) (h6 : f.f6 = op) (h19 : f.f19 = rn) :
    encExtra f.cond p f.b23 u w l op rn f.f15 (f.splitImm8.extractLsb' 4 4) (f.splitImm8.extractLsb' 0 4) = f := by
  subst h19
  rw [splitImm8_high, splitImm8_low]
  exact encExtra_columns hg h7 hb4 h24 h22 h21 h20 h6

theorem encXlsi_columns (hg : f.group = 0#3) (h7 : f.b7 = true) (hb4 : f.b4 = true) (h24 : f.b24 = p) (h22 : f.b22 = true)
    (h21 : f.b21 = w) (h20 : f.b20 = l) (h6 : f.f6 = op) (h19 : f.f19 = rn) : encXlsi f.cond p f.b23 w l op rn f.f15 f.splitImm8 = f :=
  encExtra_splitImm8 hg h7 hb4 h24 h22 h21 h20 h6 h19

theorem Reads.of_xlsr (hg : f.group = 0#3) (h7 : f.b7 = true) (hb4 : f.b4 = true) (h24 : f.b24 = p) (h22 : f.b22 = false)
    (h21 : f.b21 = w) (h20 : f.b20 = l) (h6 : f.f6 = op) (hw : i.wellFormed = true) (hc : i.cond = f.cond)
    (he : encodeFields i = encXlsr f.cond p f.b23 w l op f.f19 f.f15 f.f3) (hu : i.unexamined = 0xF00#32) : Reads f i := by
  refine .of_agrees hw hc hu ?_
  rw [he, and_not_f00, and_not_f00]
  conv_rhs => rw [← encExtra_columns hg h7 hb4 h24 h22 h21 h20 h6]
  rfl

end

theorem bit_pairs (h0 : f.f6 ≠ 0#2) : ((f.f6 == 1#2) = true → f.f6 = 1#2) ∧ ((f.f6 == 2#2) = true → f.f6 = 2#2) ∧
    ((f.f6 == 1#2) = false → (f.f6 == 2#2) = false → f.f6 = 3#2) := by
  have hall : ∀ v : BitVec 2, v ≠ 0#2 → ((v == 1#2) = true → v = 1#2) ∧ ((v == 2#2) = true → v = 2#2) ∧
    ((v == 1#2) = false → (v == 2#2) = false → v = 3#2) := by decide
  exact hall f.f6 h0

theorem decodeSync_reads (hg : f.group = 0#3) (h7 : f.b7 = true) (hb4 : f.b4 = true) (h6 : f.f6 = 0#2) (h : decodeSync f = .ok i) :
    Reads f i := by
  unfold decodeSync at h
  split at h <;> cases h
  · refine .of_agrees (u := 0xF0F#32) rfl rfl rfl ?_
    rw [and_not_f0f, and_not_f0f, encodeFields]
    simp [*]
  · refine .of_agrees (u := 0xF00#32) rfl rfl rfl ?_
    rw [and_not_f00, and_not_f00, encodeFields]
    simp [*]

theorem decodeExtraT_reads (hg : f.group = 0#3) (h7 : f.b7 = true) (hb4 : f.b4 = true) (h6 : f.f6 ≠ 0#2) (h24 : f.b24 = false)
    (h21 : f.b21 = true) (h : decodeExtraT f = .ok i) : Reads f i := by
  obtain ⟨h1, h2, h3⟩ := bit_pairs h6
  unfold decodeExtraT at h
  dsimp only at h
  split at h <;> cases h
  · exact .of_encode rfl rfl (encXlsi_columns hg h7 hb4 h24 ‹_› h21 ‹_› (h1 ‹_›) rfl)
  · exact .of_xlsr hg h7 hb4 h24 ‹_› h21 ‹_› (h1 ‹_›) rfl rfl rfl rfl
  · exact .of_encode rfl rfl (encXlsi_columns hg h7 hb4 h24 ‹_› h21 ‹_› (h1 ‹_›) rfl)
  · exact .of_xlsr hg h7 hb4 h24 ‹_› h21 ‹_› (h1 ‹_›) rfl rfl rfl rfl
  · exact .of_encode rfl rfl (encXlsi_columns hg h7 hb4 h24 ‹_› h21 ‹_› (h2 ‹_›) rfl)
  · exact .of_xlsr hg h7 hb4 h24 ‹_› h21 ‹_› (h2 ‹_›) rfl rfl rfl rfl
  · exact .of_encode rfl rfl (encXlsi_columns hg h7 hb4 h24 ‹_› h21 ‹_› (h3 ‹_› ‹_›) rfl)
  · exact .of_xlsr hg h7 hb4 h24 ‹_› h21 ‹_› (h3 ‹_› ‹_›) rfl rfl rfl rfl
  · exact .of_encode rfl rfl (encExtra_splitImm8 hg h7 hb4 h24 rfl h21 ‹_› (h2 ‹_›) rfl)
  · exact .of_encode rfl rfl (encExtra_splitImm8 hg h7 hb4 h24 rfl h21 ‹_› (h3 ‹_› ‹_›) rfl)

theorem indexing_columns (h : f.isT = false) : f.b24 = f.indexing.p ∧ f.b21 = f.indexing.w := by
  revert h
  unfold Fields.isT Fields.indexing
  cases f.b24 <;> cases f.b21 <;> decide

theorem notLiteral_of_beq {rn : RegIdx} (h : (rn == 15#4) = false) : notLiteral rn = true := by
  rw [notLiteral, bne, h]
  rfl

theorem decodeExtraImmediate_reads (hg : f.group = 0#3) (h7 : f.b7 = true) (hb4 : f.b4 = true) (h6 : f.f6 ≠ 0#2) (ht : f.isT = false)
    (h22 : f.b22 = true) (h : decodeExtraImmediate f = .ok i) : Reads f i := by
  obtain ⟨h1, h2, h3⟩ := bit_pairs h6
  obtain ⟨h24, h21⟩ := indexing_columns ht
  unfold decodeExtraImmediate at h
  dsimp only at h
  split at h <;> cases h
  · exact .of_encode rfl rfl (encXlsi_columns hg h7 hb4 h24 h22 h21 ‹_› (h1 ‹_›) rfl)
  · exact .of_encode rfl rfl (encXlsi_columns hg h7 hb4 h24 h22 h21 ‹_› (h1 ‹_›) (eq_of_beq ‹_›))
  · exact .of_encode (notLiteral_of_beq ‹_›) rfl (encXlsi_columns hg h7 hb4 h24 h22 h21 ‹_› (h1 ‹_›) rfl)
  · exact .of_encode rfl rfl (encXlsi_columns hg h7 hb4 h24 h22 h21 ‹_› (h2 ‹_›) (eq_of_beq ‹_›))
  · exact .of_encode (notLiteral_of_beq ‹_›) rfl (encXlsi_columns hg h7 hb4 h24 h22 h21 ‹_› (h2 ‹_›) rfl)
  · exact .of_encode rfl rfl (encXlsi_columns hg h7 hb4 h24 h22 h21 ‹_› (h2 ‹_›) (eq_of_beq ‹_›))
  · exact .of_encode (notLiteral_of_beq ‹_›) rfl (encXlsi_columns hg h7 hb4 h24 h22 h21 ‹_› (h2 ‹_›) rfl)
  · exact .of_encode rfl rfl (encXlsi_columns hg h7 hb4 h24 h22 h21 ‹_› (h3 ‹_› ‹_›) rfl)
  · exact .of_encode rfl rfl (encXlsi_columns hg h7 hb4 h24 h22 h21 ‹_› (h3 ‹_› ‹_›) (eq_of_beq ‹_›))
  · exact .of_encode (notLiteral_of_beq ‹_›) rfl (encXlsi_columns hg h7 hb4 h24 h22 h21 ‹_› (h3 ‹_› ‹_›) rfl)

theorem decodeExtraRegister_reads (hg : f.group = 0#3) (h7 : f.b7 = true) (hb4 : f.b4 = true) (h6 : f.f6 ≠ 0#2) (ht : f.isT = false)
    (h22 : f.b22 = false) (h : decodeExtraRegister f = .ok i) : Reads f i := by
  obtain ⟨h1, h2, h3⟩ := bit_pairs h6
  obtain ⟨h24, h21⟩ := indexing_columns ht
  unfold decodeExtraRegister at h
  dsimp only at h
  split at h <;> cases h
  · exact .of_xlsr hg h7 hb4 h24 h22 h21 ‹_› (h1 ‹_›) rfl rfl rfl rfl
  · exact .of_xlsr hg h7 hb4 h24 h22 h21 ‹_› (h1 ‹_›) rfl rfl rfl rfl
  · exact .of_xlsr hg h7 hb4 h24 h22 h21 ‹_› (h2 ‹_›) rfl rfl rfl rfl
  · exact .of_xlsr hg h7 hb4 h24 h22 h21 ‹_› (h2 ‹_›) rfl rfl rfl rfl
  · exact .of_xlsr hg h7 hb4 h24 h22 h21 ‹_› (h3 ‹_› ‹_›) rfl rfl rfl rfl
  · exact .of_xlsr hg h7 hb4 h24 h22 h21 ‹_› (h3 ‹_› ‹_›) rfl rfl rfl rfl

theorem decodeDataProcRegister_reads (hg : f.group = 0#3) (h : decodeDataProcRegister f = .ok i) : Reads f i := by
  unfold decodeDataProcRegister at h
  split at h
  next hextra =>
    obtain ⟨h7, hb4⟩ := Bool.and_eq_true_iff.1 hextra
    split at h
    next h6 => exact decodeSync_reads hg h7 hb4 (eq_of_beq h6) h
    next h6 =>
      have h6 : f.f6 ≠ 0#2 := fun h0 => h6 (beq_iff_eq.2 h0)
      split at h
      next ht =>
        obtain ⟨h24, h21⟩ := Bool.and_eq_true_iff.1 ht
        exact decodeExtraT_reads hg h7 hb4 h6 (by simpa using h24) h21 h
      next ht =>
        have ht := Bool.eq_false_iff.2 ht
        split at h
        next h22 => exact decodeExtraImmediate_reads hg h7 hb4 h6 ht h22 h
        next h22 => exact decodeExtraRegister_reads hg h7 hb4 h6 ht (Bool.eq_false_iff.2 h22) h
  next =>
    split at h
    · cases h
    · split at h
      · cases h
      next hb4 => exact decodeDpr_reads hg (Bool.eq_false_iff.2 hb4) h

theorem decodeDataProcImmediate_reads (hg : f.group = 1#3) (h : decodeDataProcImmediate f = .ok i) : Reads f i := by
  unfold decodeDataProcImmediate at h
  split at h
  next hspace =>
    simp only [Bool.and_eq_true, Bool.not_eq_true'] at hspace
    obtain ⟨⟨h24, h23⟩, h20⟩ := hspace
    split at h
    · cases h
    next h21 =>
      split at h <;> cases h
      next h22 =>
        have hcolumns := encDpi_columns hg h24 h23 (Bool.eq_false_iff.2 h22) (Bool.eq_false_iff.2 h21)
        rw [h20] at hcolumns
        refine .of_encode rfl rfl ?_
        rw [encodeFields, imm16_high, imm16_low]
        exact hcolumns
  next => exact decodeDpi_reads hg h

/-! ### Word and byte transfers, the media space -/

theorem decodeLoadStoreImmediate_reads (hg : f.group = 2#3) (h : decodeLoadStoreImmediate f = .ok i) : Reads f i := by
  unfold decodeLoadStoreImmediate at h
  dsimp only at h
  split at h
  next ht =>
    obtain ⟨h24, h21⟩ := Bool.and_eq_true_iff.1 ht
    have h24 : f.b24 = false := by simpa using h24
    split at h <;> cases h <;> exact .of_encode rfl rfl (encLsi_columns hg h24 ‹_› h21 ‹_› rfl)
  next ht =>
    obtain ⟨h24, h21⟩ := indexing_columns (Bool.eq_false_iff.2 ht)
    split at h <;> cases h
    · exact .of_encode rfl rfl (encLsi_columns hg h24 ‹_› h21 ‹_› rfl)
    · exact .of_encode rfl rfl (encLsi_columns hg h24 ‹_› h21 ‹_› (eq_of_beq ‹_›))
    · exact .of_encode (notLiteral_of_beq ‹_›) rfl (encLsi_columns hg h24 ‹_› h21 ‹_› rfl)
    · exact .of_encode rfl rfl (encLsi_columns hg h24 ‹_› h21 ‹_› rfl)
    · exact .of_encode rfl rfl (encLsi_columns hg h24 ‹_› h21 ‹_› (eq_of_beq ‹_›))
    · exact .of_encode (notLiteral_of_beq ‹_›) rfl (encLsi_columns hg h24 ‹_› h21 ‹_› rfl)

theorem decodeLoadStoreRegister_reads (hg : f.group = 3#3) (h : decodeLoadStoreRegister f = .ok i) : Reads f i := by
  unfold decodeLoadStoreRegister at h
  dsimp only at h
  split at h
  next hb4 =>
    cases h
    exact .of_encode rfl rfl (mediaSpace_columns hg hb4)
  next hb4 =>
    have hb4 := Bool.eq_false_iff.2 hb4
    split at h
    next ht =>
      obtain ⟨h24, h21⟩ := Bool.and_eq_true_iff.1 ht
      have h24 : f.b24 = false := by simpa using h24
      split at h <;> cases h <;> exact .of_encode rfl rfl (encLsr_columns hg hb4 h24 ‹_› h21 ‹_›)
    next ht =>
      obtain ⟨h24, h21⟩ := indexing_columns (Bool.eq_false_iff.2 ht)
      split at h <;> cases h <;> exact .of_encode rfl rfl (encLsr_columns hg hb4 h24 ‹_› h21 ‹_›)

/-! ### Block transfers and branches -/

theorem decodeBlock_reads (hg : f.group = 4#3) (h : decodeBlock f = .ok i) : Reads f i := by
  unfold decodeBlock at h
  dsimp only at h
  split at h
  next h22 =>
    cases h
    exact .of_encode rfl rfl (encBlk_columns hg rfl rfl h22 rfl)
  next h22 =>
    have h22 := Bool.eq_false_iff.2 h22
    split at h <;> cases h <;> exact .of_encode rfl rfl (encBlk_columns hg ‹_› ‹_› h22 ‹_›)

theorem decodeBranch_reads (hg : f.group = 5#3) (h : decodeBranch f = .ok i) : Reads f i := by
  unfold decodeBranch at h
  split at h <;> cases h
  next h24 => exact .of_encode rfl rfl (encBr_columns hg h24)
  next h24 => exact .of_encode rfl rfl (encBr_columns hg (Bool.eq_false_iff.2 h24))

end

end Sys2Proof
end

section
/-! What the decoder answers in the coprocessor and hypercall groups. -/

namespace Sys2Proof

section
variable {f : Fields} {i : Instr}

/-! ### Coprocessors -/

theorem coprocOutsideVfp_of {n : BitVec 4} (h : (n.extractLsb' 1 3 == 5#3) = false) : coprocOutsideVfp n = true := by
  revert n
  decide

theorem decodeCoprocTransfer_reads (hg : f.group = 6#3) (hn : coprocOutsideVfp f.f11 = true) (h : decodeCoprocTransfer f = .ok i) :
    Reads f i := by
  unfold decodeCoprocTransfer at h
  dsimp only at h
  split at h
  next hcell =>
    simp only [Bool.and_eq_true, Bool.not_eq_true'] at hcell
    obtain ⟨⟨h24, h23⟩, h21⟩ := hcell
    split at h <;> cases h
    · exact .of_encode hn rfl (encCprr_columns hg h24 h23 ‹_› h21 ‹_›)
    · exact .of_encode hn rfl (encCprr_columns hg h24 h23 ‹_› h21 ‹_›)
    · exact .of_encode hn rfl (encCpls_columns hg h24 h23 ‹_› h21 rfl rfl)
  next hcell =>
    have hmode : transferMode f.b24 f.b23 f.b21 = true := by
      revert hcell
      cases f.b24 <;> cases f.b23 <;> cases f.b21 <;> decide
    have hboth := Bool.and_eq_true_iff.2 ⟨hn, hmode⟩
    split at h <;> cases h
    · exact .of_encode hboth rfl (encCpls_columns hg rfl rfl rfl rfl ‹_› rfl)
    · exact .of_encode hboth rfl (encCpls_columns hg rfl rfl rfl rfl ‹_› (eq_of_beq ‹_›))
    · exact .of_encode (Bool.and_eq_true_iff.2 ⟨hboth, notLiteral_of_beq ‹_›⟩) rfl (encCpls_columns hg rfl rfl rfl rfl ‹_› rfl)

theorem decodeCoprocRegister_reads (hg : f.group = 7#3) (h24 : f.b24 = false) (hn : coprocOutsideVfp f.f11 = true)
    (h : decodeCoprocRegister f = .ok i) : Reads f i := by
  unfold decodeCoprocRegister at h
  dsimp only at h
  split at h <;> cases h
  · exact .of_encode hn rfl (encCpdp_columns hg h24 ‹_›)
  · exact .of_encode hn rfl (encCprt_columns hg h24 ‹_› ‹_›)
  · exact .of_encode hn rfl (encCprt_columns hg h24 ‹_› ‹_›)

theorem vfpSpace_slice {w : Word} {mid : BitVec 12} (hmid : mid = w.extractLsb' 12 12) {g : BitVec 3} (hg : (fieldsOf w).group = g)
    (hhigh : 3#2 ++ BitVec.ofBool (g.getLsbD 0) = g) (h11 : 5#3 ++ BitVec.ofBool ((fieldsOf w).f11.getLsbD 0) = (fieldsOf w).f11) :
    encodeFields (.vfpSpace (fieldsOf w).cond (BitVec.ofBool (g.getLsbD 0) ++ BitVec.ofBool (fieldsOf w).b24) mid
      ((fieldsOf w).f11.getLsbD 0) (fieldsOf w).imm8) = fieldsOf w := by
  have hop : ∀ a b : Bool, (BitVec.ofBool a ++ BitVec.ofBool b).getLsbD 1 = a ∧ (BitVec.ofBool a ++ BitVec.ofBool b).getLsbD 0 = b := by
    decide
  obtain ⟨hop1, hop0⟩ := hop (g.getLsbD 0) (fieldsOf w).b24
  rw [encodeFields, hop1, hop0, hhigh, h11, f11_append_imm8, hmid, getLsbD_slice w (by decide), getLsbD_slice w (by decide),
    getLsbD_slice w (by decide), getLsbD_slice w (by decide), slice_slice w (by decide), slice_slice w (by decide), ← hg]
  exact highFields_columns (fieldsOf w)

theorem vfpSpace_reads {g : BitVec 3} (hg : f.group = g) (hgroup : g = 6#3 ∨ g = 7#3) (hsvc : f.isSvc = false)
    (h11 : (f.f11.extractLsb' 1 3 == 5#3) = true) :
    Reads f (.vfpSpace f.cond (BitVec.ofBool (f.group.getLsbD 0) ++ BitVec.ofBool f.b24)
      (BitVec.ofBool f.b23 ++ BitVec.ofBool f.b22 ++ BitVec.ofBool f.b21 ++ BitVec.ofBool f.b20 ++ f.f19 ++ f.f15)
      (f.f11.getLsbD 0) f.imm8) := by
  have hlow : ∀ n : BitVec 4, (n.extractLsb' 1 3 == 5#3) = true → 5#3 ++ BitVec.ofBool (n.getLsbD 0) = n := by decide
  have hhigh : 3#2 ++ BitVec.ofBool (g.getLsbD 0) = g := by obtain rfl | rfl := hgroup <;> rfl
  rw [hg]
  refine .of_encode ?_ rfl ?_
  · rw [Fields.isSvc, hg] at hsvc
    obtain rfl | rfl := hgroup
    · cases f.b24 <;> rfl
    · have h24 : f.b24 = false := hsvc
      rw [h24]
      rfl
  · obtain ⟨w, rfl⟩ := exists_fieldsOf f
    refine vfpSpace_slice ?_ hg hhigh (hlow _ h11)
    simp only [fieldsOf, ofBool_getLsbD]
    repeat rw [BitVec.extractLsb'_append_extractLsb'_eq_extractLsb' (by rfl)]

/-! ### Hypercalls -/

theorem decodeHypSubs_reads (hg : f.group = 7#3) (h24 : f.b24 = true) (h23 : f.b23 = false) (h22 : f.b22 = false) (h21 : f.b21 = true)
    (h : decodeHypSubs f = .ok i) : Reads f i := by
  have hopcode : ∀ (v : BitVec 4) (a b c d : Bool), v.getLsbD 3 = a → v.getLsbD 2 = b → v.getLsbD 1 = c → v.getLsbD 0 = d →
      v = nibble a b c d := by decide
  unfold decodeHypSubs at h
  split at h
  · cases h
  · split at h
    · cases h
    next hregister =>
      have hb4 : f.b20 = false → f.b4 = false := by
        intro h20
        simpa [h20] using hregister
      have hshift (h20 : f.b20 = false) := registerOperand_imm12 (hb4 h20)
      split at h <;> cases h <;> refine .of_encode rfl rfl ?_
      iterate 12 exact encHyp_columns hg h24 h23 h22 h21 ‹_› (hopcode _ _ _ _ _ ‹_› ‹_› ‹_› ‹_›)
      iterate 12
        rw [encodeFields, encSubsRegister, hshift ‹_›]
        exact encHyp_columns hg h24 h23 h22 h21 ‹_› (hopcode _ _ _ _ _ ‹_› ‹_› ‹_› ‹_›)

/-! ### The eight SUBID rows: what is examined of each -/

section
variable (g : Fields)

/-- CPS: bits 15, 8:6 and 4:0 below bit 16. -/
theorem and_not_7e20 : g.and (fieldsOf (~~~0x7E20#32)) = { g with f15 := g.f15 &&& 8#4, f11 := g.f11 &&& 1#4, f6 := g.f6 &&& 2#2 } := by
  have hmask : fieldsOf (~~~0x7E20#32) = ⟨15#4, 7#3, true, true, true, true, true, 15#4, 8#4, 1#4, true, 2#2, true, 15#4⟩ := rfl
  rw [hmask]
  simp [Fields.and, and_ones3, and_ones4]

/-- MRS: `Rd` below bit 16. -/
theorem and_not_20fff : g.and (fieldsOf (~~~0x20FFF#32)) =
    { g with f19 := g.f19 &&& 13#4, f11 := 0#4, b7 := false, f6 := 0#2, b4 := false, f3 := 0#4 } := by
  have hmask : fieldsOf (~~~0x20FFF#32) = ⟨15#4, 7#3, true, true, true, true, true, 13#4, 15#4, 0#4, false, 0#2, false, 0#4⟩ := rfl
  rw [hmask]
  simp [Fields.and, and_ones3, and_ones4]

/-- MSR (immediate): every bit below bit 17. -/
theorem and_not_20000 : g.and (fieldsOf (~~~0x20000#32)) = { g with f19 := g.f19 &&& 13#4 } := by
  have hmask : fieldsOf (~~~0x20000#32) = ⟨15#4, 7#3, true, true, true, true, true, 13#4, 15#4, 15#4, true, 3#2, true, 15#4⟩ := rfl
  rw [hmask]
  simp [Fields.and, and_ones2, and_ones3, and_ones4]

/-- MSR (register): the mask and `Rn` below bit 16. -/
theorem and_not_20ff0 : g.and (fieldsOf (~~~0x20FF0#32)) =
    { g with f19 := g.f19 &&& 13#4, f11 := 0#4, b7 := false, f6 := 0#2, b4 := false } := by
  have hmask : fieldsOf (~~~0x20FF0#32) = ⟨15#4, 7#3, true, true, true, true, true, 13#4, 15#4, 0#4, false, 0#2, false, 15#4⟩ := rfl
  rw [hmask]
  simp [Fields.and, and_ones3, and_ones4]

/-- RFE: bit 15 and `Rn` below bit 16. -/
theorem and_not_7ff0 : g.and (fieldsOf (~~~0x7FF0#32)) =
    { g with f15 := g.f15 &&& 8#4, f11 := 0#4, b7 := false, f6 := 0#2, b4 := false } := by
  have hmask : fieldsOf (~~~0x7FF0#32) = ⟨15#4, 7#3, true, true, true, true, true, 15#4, 8#4, 0#4, false, 0#2, false, 15#4⟩ := rfl
  rw [hmask]
  simp [Fields.and, and_ones3, and_ones4]

/-- SRS: bit 15 and the mode below bit 16. -/
theorem and_not_7fe0 : g.and (fieldsOf (~~~0x7FE0#32)) = { g with f15 := g.f15 &&& 8#4, f11 := 0#4, b7 := false, f6 := 0#2 } := by
  have hmask : fieldsOf (~~~0x7FE0#32) = ⟨15#4, 7#3, true, true, true, true, true, 15#4, 8#4, 0#4, false, 0#2, true, 15#4⟩ := rfl
  rw [hmask]
  simp [Fields.and, and_ones3, and_ones4]

/-- WFI: nothing below bit 18. -/
theorem and_not_3ffff : g.and (fieldsOf (~~~0x3FFFF#32)) =
    { g with f19 := g.f19 &&& 12#4, f15 := 0#4, f11 := 0#4, b7 := false, f6 := 0#2, b4 := false, f3 := 0#4 } := by
  have hmask : fieldsOf (~~~0x3FFFF#32) = ⟨15#4, 7#3, true, true, true, true, true, 12#4, 0#4, 0#4, false, 0#2, false, 0#4⟩ := rfl
  rw [hmask]
  simp [Fields.and, and_ones3, and_ones4]

end

theorem encSubid_eq (cond : Cond) (i2 i1 i0 b17 b16 : Bool) (f15 : BitVec 4) (low : BitVec 12) :
    encSubid cond i2 i1 i0 b17 b16 f15 low = ⟨cond, 7#3, true, false, false, false, i2, nibble i1 i0 b17 b16, f15, low.extractLsb' 8 4,
      low.getLsbD 7, low.extractLsb' 5 2, low.getLsbD 4, low.extractLsb' 0 4⟩ := rfl

section
variable {v : BitVec 4} {a b : Bool}

theorem nibble_low_bits (h3 : v.getLsbD 3 = a) (h2 : v.getLsbD 2 = b) : nibble a b (v.getLsbD 1) (v.getLsbD 0) = v := by
  revert v a b
  decide

theorem nibble_bit0_bits (h3 : v.getLsbD 3 = a) (h2 : v.getLsbD 2 = b) : nibble a b false (v.getLsbD 0) &&& 13#4 = v &&& 13#4 := by
  revert v a b
  decide

theorem nibble_high_bits (h3 : v.getLsbD 3 = a) (h2 : v.getLsbD 2 = b) : nibble a b false false &&& 12#4 = v &&& 12#4 := by
  revert v a b
  decide

theorem bit3_bits (v : BitVec 4) : (BitVec.ofBool (v.getLsbD 3) ++ 0#3) &&& 8#4 = v &&& 8#4 := by
  revert v
  decide

end

/-- The five bits of a mode operand are bits 4:0. -/
theorem mode5_bits (b : Bool) (v : BitVec 4) :
    (BitVec.ofBool b ++ v).getLsbD 4 = b ∧ (BitVec.ofBool b ++ v).extractLsb' 0 4 = v := by
  revert b v
  decide

theorem mode5_low {low : BitVec 12} (h : low.extractLsb' 0 5 = f.mode5) : low.getLsbD 4 = f.b4 ∧ low.extractLsb' 0 4 = f.f3 := by
  obtain ⟨h4, h3⟩ := mode5_bits f.b4 f.f3
  refine ⟨?_, ?_⟩
  · rw [← h4, ← Fields.mode5, ← h, getLsbD_slice low (by decide)]
  · rw [← h3, ← Fields.mode5, ← h, slice_slice low (by decide)]

section
variable (hg : f.group = 7#3) (h24 : f.b24 = true) (h23 : f.b23 = false) (h22 : f.b22 = false) (h21 : f.b21 = false)
include hg h24 h23 h22 h21

theorem hypCps_reads (h20 : f.b20 = false) (h3 : f.f19.getLsbD 3 = false) (h2 : f.f19.getLsbD 2 = false) :
    Reads f (.hypCps f.cond (f.f19.extractLsb' 0 2) (f.f15.getLsbD 3) (f.f11.getLsbD 0) f.b7 (f.f6.getLsbD 1) f.mode5) := by
  have hbit0 : ∀ x y : BitVec 4, x.getLsbD 0 = y.getLsbD 0 → x &&& 1#4 = y &&& 1#4 := by decide
  have hbit1 : ∀ x y : BitVec 2, x.getLsbD 1 = y.getLsbD 1 → x &&& 2#2 = y &&& 2#2 := by decide
  obtain ⟨ha, hi, hf, hmode⟩ := cpsPayload (f.f11.getLsbD 0) f.b7 (f.f6.getLsbD 1) f.mode5 _ rfl
  obtain ⟨h4, hlow⟩ := mode5_low hmode
  refine .of_agrees (u := 0x7E20#32) rfl rfl rfl ?_
  rw [and_not_7e20, and_not_7e20, encodeFields, encSubid_eq, getLsbD_slice _ (by decide), getLsbD_slice _ (by decide),
    nibble_low_bits h3 h2]
  simp only [bit3_bits, hbit0 _ _ ha, hbit1 _ _ hf, hi, h4, hlow, hg, h24, h23, h22, h21, h20]

theorem hypMrs_reads (h20 : f.b20 = false) (h3 : f.f19.getLsbD 3 = false) (h2 : f.f19.getLsbD 2 = true) :
    Reads f (.hypMrs f.cond (f.f19.getLsbD 0) f.f15) := by
  refine .of_agrees (u := 0x20FFF#32) rfl rfl rfl ?_
  rw [and_not_20fff, and_not_20fff, encodeFields, encSubid_eq, nibble_bit0_bits h3 h2]
  simp only [hg, h24, h23, h22, h21, h20]

theorem hypMsrImmediate_reads (h20 : f.b20 = false) (h3 : f.f19.getLsbD 3 = true) (h2 : f.f19.getLsbD 2 = false) :
    Reads f (.hypMsrImmediate f.cond (f.f19.getLsbD 0) f.f15 f.imm12) := by
  obtain ⟨h11, h7, h6, h4, hlow⟩ := imm12_columns f
  refine .of_agrees (u := 0x20000#32) rfl rfl rfl ?_
  rw [and_not_20000, and_not_20000, encodeFields, encSubid_eq, nibble_bit0_bits h3 h2]
  simp only [h11, h7, h6, h4, hlow, hg, h24, h23, h22, h21, h20]

theorem hypMsrRegister_reads (h20 : f.b20 = false) (h3 : f.f19.getLsbD 3 = true) (h2 : f.f19.getLsbD 2 = true) :
    Reads f (.hypMsrRegister f.cond (f.f19.getLsbD 0) f.f15 f.f3) := by
  have hrn : (0#8 ++ f.f3).extractLsb' 0 4 = f.f3 := BitVec.extractLsb'_append_eq_right
  refine .of_agrees (u := 0x20FF0#32) rfl rfl rfl ?_
  rw [and_not_20ff0, and_not_20ff0, encodeFields, encSubid_eq, nibble_bit0_bits h3 h2]
  simp only [hrn, hg, h24, h23, h22, h21, h20]

theorem hypRfe_reads (h20 : f.b20 = true) (h3 : f.f19.getLsbD 3 = false) (h2 : f.f19.getLsbD 2 = false) :
    Reads f (.hypRfe f.cond (f.f19.getLsbD 1) (f.f19.getLsbD 0) (f.f15.getLsbD 3) f.f3) := by
  have hrn : (0#8 ++ f.f3).extractLsb' 0 4 = f.f3 := BitVec.extractLsb'_append_eq_right
  refine .of_agrees (u := 0x7FF0#32) rfl rfl rfl ?_
  rw [and_not_7ff0, and_not_7ff0, encodeFields, encSubid_eq, nibble_low_bits h3 h2]
  simp only [bit3_bits, hrn, hg, h24, h23, h22, h21, h20]

theorem hypSrs_reads (h20 : f.b20 = true) (h3 : f.f19.getLsbD 3 = false) (h2 : f.f19.getLsbD 2 = true) :
    Reads f (.hypSrs f.cond (f.f19.getLsbD 1) (f.f19.getLsbD 0) (f.f15.getLsbD 3) f.mode5) := by
  obtain ⟨h4, hlow⟩ := mode5_low (f := f) (low := 0#7 ++ f.mode5) BitVec.extractLsb'_append_eq_right
  refine .of_agrees (u := 0x7FE0#32) rfl rfl rfl ?_
  rw [and_not_7fe0, and_not_7fe0, encodeFields, encSubid_eq, nibble_low_bits h3 h2]
  simp only [bit3_bits, h4, hlow, hg, h24, h23, h22, h21, h20]

theorem hypWfi_reads (h20 : f.b20 = true) (h3 : f.f19.getLsbD 3 = true) (h2 : f.f19.getLsbD 2 = false) : Reads f (.hypWfi f.cond) := by
  refine .of_agrees (u := 0x3FFFF#32) rfl rfl rfl ?_
  rw [and_not_3ffff, and_not_3ffff, encodeFields, encSubid_eq, nibble_high_bits h3 h2]
  simp only [hg, h24, h23, h22, h21, h20]

theorem hypSubid7_reads (h20 : f.b20 = true) (h3 : f.f19.getLsbD 3 = true) (h2 : f.f19.getLsbD 2 = true) :
    Reads f (.hypSubid7 f.cond (f.f19.extractLsb' 0 2 ++ f.regList)) := by
  refine .of_encode rfl rfl ?_
  have h17 : (f.f19.extractLsb' 0 2 ++ f.regList).getLsbD 17 = f.f19.getLsbD 1 := by
    rw [BitVec.getLsbD_append]
    exact getLsbD_slice f.f19 (by decide)
  have h16 : (f.f19.extractLsb' 0 2 ++ f.regList).getLsbD 16 = f.f19.getLsbD 0 := by
    rw [BitVec.getLsbD_append]
    exact getLsbD_slice f.f19 (by decide)
  have hhigh : (f.f19.extractLsb' 0 2 ++ f.regList).extractLsb' 12 4 = f.f15 := by
    rw [BitVec.extractLsb'_append_eq_of_add_le (by decide), regList_high]
  have hlow : (f.f19.extractLsb' 0 2 ++ f.regList).extractLsb' 0 12 = f.imm12 := by
    rw [BitVec.extractLsb'_append_eq_of_add_le (by decide), regList_low]
  rw [encodeFields, h17, h16, hhigh, hlow, encSubid]
  exact encHyp_columns hg h24 h23 h22 h21 h20 (nibble_low_bits h3 h2).symm

theorem decodeHypSubid_reads (h : decodeHypSubid f = .ok i) : Reads f i := by
  unfold decodeHypSubid at h
  dsimp only at h
  split at h <;> cases h
  · exact hypCps_reads hg h24 h23 h22 h21 ‹_› ‹_› ‹_›
  · exact hypMrs_reads hg h24 h23 h22 h21 ‹_› ‹_› ‹_›
  · exact hypMsrImmediate_reads hg h24 h23 h22 h21 ‹_› ‹_› ‹_›
  · exact hypMsrRegister_reads hg h24 h23 h22 h21 ‹_› ‹_› ‹_›
  · exact hypRfe_reads hg h24 h23 h22 h21 ‹_› ‹_› ‹_›
  · exact hypSrs_reads hg h24 h23 h22 h21 ‹_› ‹_› ‹_›
  · exact hypWfi_reads hg h24 h23 h22 h21 ‹_› ‹_› ‹_›
  · exact hypSubid7_reads hg h24 h23 h22 h21 ‹_› ‹_› ‹_›

end

theorem regList_bit15 : f.regList.getLsbD 15 = f.f15.getLsbD 3 := by
  rw [← bit15_high, regList_high]

theorem decodeHyp_reads (hg : f.group = 7#3) (h24 : f.b24 = true) (h : decodeHyp f = .ok i) : Reads f i := by
  unfold decodeHyp at h
  split at h
  next h23 =>
    split at h <;> cases h
    next h15 => exact .of_encode (regList_bit15.trans h15) rfl (encHypBlock_columns hg h24 h23 rfl)
    next h15 =>
      refine .of_encode ?_ rfl (encHypBlock_columns hg h24 h23 rfl)
      rw [Instr.wellFormed, regList_bit15, Bool.eq_false_iff.2 h15]
      rfl
  next h23 =>
    have h23 := Bool.eq_false_iff.2 h23
    split at h
    next h22 =>
      cases h
      exact .of_encode rfl rfl (encHypBlock_columns hg h24 h23 h22)
    next h22 =>
      have h22 := Bool.eq_false_iff.2 h22
      split at h
      next h21 => exact decodeHypSubs_reads hg h24 h23 h22 h21 h
      next h21 => exact decodeHypSubid_reads hg h24 h23 h22 (Bool.eq_false_iff.2 h21) h

/-! ### All groups -/

theorem decodeCoproc_reads {g : BitVec 3} (hg : f.group = g) (hgroup : g = 6#3 ∨ g = 7#3) (h : decodeCoproc decodeHyp f = .ok i) :
    Reads f i := by
  unfold decodeCoproc at h
  split at h
  next hsvc =>
    obtain ⟨h7, h24⟩ := Bool.and_eq_true_iff.1 hsvc
    exact decodeHyp_reads (eq_of_beq h7) h24 h
  next hsvc =>
    have hsvc := Bool.eq_false_iff.2 hsvc
    split at h
    next hvfp =>
      cases h
      exact vfpSpace_reads hg hgroup hsvc hvfp
    next hvfp =>
      have hn := coprocOutsideVfp_of (Bool.eq_false_iff.2 hvfp)
      split at h
      next h6 => exact decodeCoprocTransfer_reads (eq_of_beq h6) hn h
      next h6 =>
        obtain rfl | rfl := hgroup
        · exact absurd (beq_iff_eq.2 hg) h6
        · have h24 : f.b24 = false := by simpa [Fields.isSvc, hg] using hsvc
          exact decodeCoprocRegister_reads hg h24 hn h

end

/-- Each group by its demultiplexer. -/
theorem decodeNative_group (forms : HypForms) (f : Fields) :
    (f.group = 0#3 ∧ decodeNative forms f = decodeDataProcRegister f) ∨ (f.group = 1#3 ∧ decodeNative forms f = decodeDataProcImmediate f) ∨
    (f.group = 2#3 ∧ decodeNative forms f = decodeLoadStoreImmediate f) ∨ (f.group = 3#3 ∧
      decodeNative forms f = decodeLoadStoreRegister f) ∨
    (f.group = 4#3 ∧ decodeNative forms f = decodeBlock f) ∨ (f.group = 5#3 ∧ decodeNative forms f = decodeBranch f) ∨
    ((f.group = 6#3 ∨ f.group = 7#3) ∧ decodeNative forms f = decodeCoproc forms f) := by
  have hvalues : ∀ g : BitVec 3, g = 0#3 ∨ g = 1#3 ∨ g = 2#3 ∨ g = 3#3 ∨ g = 4#3 ∨ g = 5#3 ∨ g = 6#3 ∨ g = 7#3 := by decide
  obtain h | h | h | h | h | h | h | h := hvalues f.group <;> simp [decodeNative, h]

theorem decodeNative_reads {f : Fields} {i : Instr} (h : decodeNative decodeHyp f = .ok i) : Reads f i := by
  obtain ⟨hg, hd⟩ | ⟨hg, hd⟩ | ⟨hg, hd⟩ | ⟨hg, hd⟩ | ⟨hg, hd⟩ | ⟨hg, hd⟩ | ⟨hg, hd⟩ := decodeNative_group decodeHyp f <;> rw [hd] at h
  · exact decodeDataProcRegister_reads hg h
  · exact decodeDataProcImmediate_reads hg h
  · exact decodeLoadStoreImmediate_reads hg h
  · exact decodeLoadStoreRegister_reads hg h
  · exact decodeBlock_reads hg h
  · exact decodeBranch_reads hg h
  · exact decodeCoproc_reads rfl hg h

end Sys2Proof
end

section
/-! The words that select no instruction, column by column: each space of R107's list, and where each demultiplexer has no row. -/

namespace Sys2Proof

open Machine (inSpace unmapped)

/-! ### The spaces -/

section
variable (w : Word)

theorem inSpace_bits {m p : Word} {b : Bool} (h : (fieldsOf w).and (fieldsOf m) = fieldsOf p ↔ b = true) : inSpace m p w = b := by
  rw [← fieldsOf_and] at h
  rw [inSpace, beq_eq_decide, Bool.eq_iff_iff, decide_eq_true_iff, ← h]
  exact ⟨fun heq => by rw [heq], fieldsOf_injective⟩

theorem inSpace_multiplies : inSpace 0x0E0000F0#32 0x00000090#32 w =
    ((fieldsOf w).group == 0#3 && (fieldsOf w).b7 && (fieldsOf w).f6 == 0#2 && (fieldsOf w).b4) :=
  inSpace_bits w (by simp [Fields.and, fieldsOf, and_ones2, and_ones3, and_assoc])

theorem inSpace_strex : inSpace 0x0FF000F0#32 0x01800090#32 w =
    ((fieldsOf w).group == 0#3 && (fieldsOf w).b24 && (fieldsOf w).b23 && !(fieldsOf w).b22 && !(fieldsOf w).b21 && !(fieldsOf w).b20 &&
      (fieldsOf w).b7 && (fieldsOf w).f6 == 0#2 && (fieldsOf w).b4) :=
  inSpace_bits w (by simp [Fields.and, fieldsOf, and_ones2, and_ones3, and_assoc])

theorem inSpace_ldrex : inSpace 0x0FF000F0#32 0x01900090#32 w =
    ((fieldsOf w).group == 0#3 && (fieldsOf w).b24 && (fieldsOf w).b23 && !(fieldsOf w).b22 && !(fieldsOf w).b21 && (fieldsOf w).b20 &&
      (fieldsOf w).b7 && (fieldsOf w).f6 == 0#2 && (fieldsOf w).b4) :=
  inSpace_bits w (by simp [Fields.and, fieldsOf, and_ones2, and_ones3, and_assoc])

theorem inSpace_miscellaneous : inSpace 0x0F900000#32 0x01000000#32 w =
    ((fieldsOf w).group == 0#3 && (fieldsOf w).b24 && !(fieldsOf w).b23 && !(fieldsOf w).b20) :=
  inSpace_bits w (by simp [Fields.and, fieldsOf, and_ones3, and_assoc])

theorem inSpace_registerShifted : inSpace 0x0E000090#32 0x00000010#32 w =
    ((fieldsOf w).group == 0#3 && !(fieldsOf w).b7 && (fieldsOf w).b4) :=
  inSpace_bits w (by simp [Fields.and, fieldsOf, and_ones3, and_assoc])

theorem inSpace_compare : inSpace 0x0D900000#32 0x01100000#32 w =
    (((fieldsOf w).group &&& 6#3) == 0#3 && (fieldsOf w).b24 && !(fieldsOf w).b23 && (fieldsOf w).b20) :=
  inSpace_bits w (by simp [Fields.and, fieldsOf, and_assoc])

theorem inSpace_movt : inSpace 0x0FF00000#32 0x03400000#32 w =
    ((fieldsOf w).group == 1#3 && (fieldsOf w).b24 && !(fieldsOf w).b23 && (fieldsOf w).b22 && !(fieldsOf w).b21 && !(fieldsOf w).b20) :=
  inSpace_bits w (by simp [Fields.and, fieldsOf, and_ones3, and_assoc])

theorem inSpace_msrImmediate : inSpace 0x0FB00000#32 0x03200000#32 w =
    ((fieldsOf w).group == 1#3 && (fieldsOf w).b24 && !(fieldsOf w).b23 && (fieldsOf w).b21 && !(fieldsOf w).b20) :=
  inSpace_bits w (by simp [Fields.and, fieldsOf, and_ones3, and_assoc])

theorem inSpace_subsOpcode : inSpace 0x0FEC0000#32 0x0F280000#32 w =
    ((fieldsOf w).group == 7#3 && (fieldsOf w).b24 && !(fieldsOf w).b23 && !(fieldsOf w).b22 && (fieldsOf w).b21 &&
      ((fieldsOf w).f19 &&& 12#4) == 8#4) :=
  inSpace_bits w (by simp [Fields.and, fieldsOf, and_ones3, and_assoc])

theorem inSpace_subsRegisterShifted : inSpace 0x0FF00010#32 0x0F200010#32 w =
    ((fieldsOf w).group == 7#3 && (fieldsOf w).b24 && !(fieldsOf w).b23 && !(fieldsOf w).b22 && (fieldsOf w).b21 && !(fieldsOf w).b20 &&
      (fieldsOf w).b4) :=
  inSpace_bits w (by simp [Fields.and, fieldsOf, and_ones3, and_assoc])

end

/-- The spaces of R107's list in columns. -/
def Fields.unmapped (f : Fields) : Bool :=
  (f.group == 0#3 &&
    ((f.b7 && f.f6 == 0#2 && f.b4 && !(f.b24 && f.b23 && !f.b22 && !f.b21)) || (f.b24 && !f.b23 && !(f.b7 && f.b4)) || (!f.b7 && f.b4))) ||
  (f.group == 1#3 && f.b24 && !f.b23 && (f.b20 || f.b21 || f.b22)) ||
  (f.group == 7#3 && f.b24 && !f.b23 && !f.b22 && f.b21 && ((f.f19 &&& 12#4) == 8#4 || (!f.b20 && f.b4)))

theorem unmapped_columns (w : Word) : unmapped w = (fieldsOf w).unmapped := by
  have h25 : w.getLsbD 25 = (fieldsOf w).group.getLsbD 0 := (getLsbD_slice w (by decide : 0 < 3)).symm
  have h7 : w.getLsbD 7 = (fieldsOf w).b7 := rfl
  have h4 : w.getLsbD 4 = (fieldsOf w).b4 := rfl
  rw [unmapped, Fields.unmapped, inSpace_multiplies, inSpace_strex, inSpace_ldrex, inSpace_miscellaneous, inSpace_registerShifted,
    inSpace_compare, inSpace_movt, inSpace_msrImmediate, inSpace_subsOpcode, inSpace_subsRegisterShifted, h25, h7, h4]
  clear h25 h7 h4
  obtain ⟨cond, g, b24, b23, b22, b21, b20, f19, f15, f11, b7, f6, b4, f3⟩ := fieldsOf w
  generalize ((f19 &&& 12#4) == 8#4) = o
  generalize (f6 == 0#2) = z
  dsimp only
  have hgroups : ∀ g : BitVec 3, (g = 0#3 ∨ g = 1#3 ∨ g = 7#3) ∨ (g == 0#3) = false ∧ (g == 1#3) = false ∧ (g == 7#3) = false ∧
    ((g &&& 6#3) == 0#3) = false := by decide
  obtain (rfl | rfl | rfl) | ⟨h0, h1, h7, h6⟩ := hgroups g
  iterate 3
    revert b24 b23 b22 b21 b20 b7 b4 z o
    decide
  simp only [h0, h1, h7, h6, Bool.false_and, Bool.or_false]

/-! ### Where a demultiplexer has no row -/

section
variable (f : Fields)

theorem decodeDpi_isOk : (decodeDpi f).isOk = !(f.b24 && !f.b23) := by
  unfold decodeDpi
  cases f.b24 <;> cases f.b23 <;> cases f.b22 <;> cases f.b21 <;> rfl

theorem decodeDpr_isOk : (decodeDpr f).isOk = !(f.b24 && !f.b23) := by
  unfold decodeDpr
  cases f.b24 <;> cases f.b23 <;> cases f.b22 <;> cases f.b21 <;> rfl

theorem decodeSync_isOk : (decodeSync f).isOk = (f.b24 && f.b23 && !f.b22 && !f.b21) := by
  unfold decodeSync
  cases f.b24 <;> cases f.b23 <;> cases f.b22 <;> cases f.b21 <;> cases f.b20 <;> rfl

theorem decodeExtraT_isOk : (decodeExtraT f).isOk = true := by
  unfold decodeExtraT
  dsimp only
  split <;> rfl

theorem decodeExtraImmediate_isOk : (decodeExtraImmediate f).isOk = true := by
  unfold decodeExtraImmediate
  dsimp only
  split <;> rfl

theorem decodeExtraRegister_isOk : (decodeExtraRegister f).isOk = true := by
  unfold decodeExtraRegister
  dsimp only
  split <;> rfl

theorem decodeDataProcRegister_isOk : (decodeDataProcRegister f).isOk =
    if f.b7 && f.b4 then !(f.f6 == 0#2) || (f.b24 && f.b23 && !f.b22 && !f.b21)
    else !(f.b24 && !f.b23 && !f.b20) && !f.b4 && !(f.b24 && !f.b23) := by
  unfold decodeDataProcRegister
  cases hextra : f.b7 && f.b4
  · cases hmisc : f.b24 && !f.b23 && !f.b20
    · cases hb4 : f.b4
      · simp [decodeDpr_isOk]
      · rfl
    · rfl
  · cases h6 : f.f6 == 0#2
    · cases ht : f.isT
      · cases h22 : f.b22
        · exact decodeExtraRegister_isOk f
        · exact decodeExtraImmediate_isOk f
      · exact decodeExtraT_isOk f
    · exact decodeSync_isOk f

theorem decodeDataProcImmediate_isOk : (decodeDataProcImmediate f).isOk =
    if f.b24 && !f.b23 && !f.b20 then !f.b21 && !f.b22 else !(f.b24 && !f.b23) := by
  unfold decodeDataProcImmediate
  cases hspace : f.b24 && !f.b23 && !f.b20
  · exact decodeDpi_isOk f
  · cases f.b21 <;> cases f.b22 <;> rfl

theorem decodeLoadStoreImmediate_isOk : (decodeLoadStoreImmediate f).isOk = true := by
  unfold decodeLoadStoreImmediate
  dsimp only
  split <;> split <;> rfl

theorem decodeLoadStoreRegister_isOk : (decodeLoadStoreRegister f).isOk = true := by
  unfold decodeLoadStoreRegister
  dsimp only
  split
  · rfl
  · split <;> split <;> rfl

theorem decodeBlock_isOk : (decodeBlock f).isOk = true := by
  unfold decodeBlock
  dsimp only
  split
  · rfl
  · split <;> rfl

theorem decodeBranch_isOk : (decodeBranch f).isOk = true := by
  unfold decodeBranch
  split <;> rfl

theorem decodeCoprocTransfer_isOk : (decodeCoprocTransfer f).isOk = true := by
  unfold decodeCoprocTransfer
  dsimp only
  split <;> split <;> rfl

theorem decodeCoprocRegister_isOk : (decodeCoprocRegister f).isOk = true := by
  unfold decodeCoprocRegister
  dsimp only
  split <;> rfl

theorem decodeHypSubs_isOk : (decodeHypSubs f).isOk = !((f.f19 &&& 12#4) == 8#4 || (!f.b20 && f.b4)) := by
  have hopcode : ∀ v : BitVec 4, (v.extractLsb' 2 2 == 2#2) = ((v &&& 12#4) == 8#4) := by decide
  have hrow : ∀ v : BitVec 4, (v.extractLsb' 2 2 == 2#2) = false → v.getLsbD 3 = true → v.getLsbD 2 ≠ false := by decide
  unfold decodeHypSubs
  rw [← hopcode]
  cases hv : f.f19.extractLsb' 2 2 == 2#2
  · cases hr : !f.b20 && f.b4
    · simp only [Bool.false_eq_true, if_false]
      split
      iterate 24 rfl
      exact absurd ‹_› (hrow f.f19 hv ‹_›)
    · rfl
  · rfl

theorem decodeHypSubid_isOk : (decodeHypSubid f).isOk = true := by
  unfold decodeHypSubid
  dsimp only
  split <;> rfl

theorem decodeHyp_isOk : (decodeHyp f).isOk = !(!f.b23 && !f.b22 && f.b21 && ((f.f19 &&& 12#4) == 8#4 || (!f.b20 && f.b4))) := by
  unfold decodeHyp
  cases f.b23
  · cases f.b22
    · cases f.b21
      · exact decodeHypSubid_isOk f
      · exact decodeHypSubs_isOk f
    · rfl
  · cases f.f15.getLsbD 3 <;> rfl

theorem decodeCoproc_isOk (forms : HypForms) : (decodeCoproc forms f).isOk = if f.isSvc then (forms f).isOk else true := by
  unfold decodeCoproc
  cases f.isSvc
  · simp only [Bool.false_eq_true, if_false]
    split
    · rfl
    · split
      · exact decodeCoprocTransfer_isOk f
      · exact decodeCoprocRegister_isOk f
  · rfl

theorem unmapped_of_group {g : BitVec 3} (hg : f.group = g) (h0 : (g == 0#3) = false) (h1 : (g == 1#3) = false) (h7 : (g == 7#3) = false) :
    f.unmapped = false := by
  rw [Fields.unmapped, hg, h0, h1, h7]
  rfl

theorem unmapped_group0 (hg : f.group = 0#3) : f.unmapped = !(decodeDataProcRegister f).isOk := by
  rw [decodeDataProcRegister_isOk, Fields.unmapped, hg]
  cases f.b24 <;> cases f.b23 <;> cases f.b7 <;> cases f.b4 <;> simp

theorem unmapped_group1 (hg : f.group = 1#3) : f.unmapped = !(decodeDataProcImmediate f).isOk := by
  rw [decodeDataProcImmediate_isOk, Fields.unmapped, hg]
  cases f.b24 <;> cases f.b23 <;> cases f.b20 <;> simp

theorem unmapped_svc (hsvc : f.isSvc = true) : f.unmapped = !(decodeHyp f).isOk := by
  obtain ⟨hg, h24⟩ := Bool.and_eq_true_iff.1 hsvc
  rw [decodeHyp_isOk, Fields.unmapped, eq_of_beq hg, h24]
  simp

theorem unmapped_coproc (hg : f.group = 6#3 ∨ f.group = 7#3) (hsvc : f.isSvc = false) : f.unmapped = false := by
  obtain hg | hg := hg
  · exact unmapped_of_group f hg rfl rfl rfl
  · have h24 : f.b24 = false := by simpa [Fields.isSvc, hg] using hsvc
    rw [Fields.unmapped, hg, h24]
    rfl

/-- The decoder finds an instruction in every word outside R107's list. -/
theorem decodeNative_isOk : (decodeNative decodeHyp f).isOk = !f.unmapped := by
  obtain ⟨hg, hd⟩ | ⟨hg, hd⟩ | ⟨hg, hd⟩ | ⟨hg, hd⟩ | ⟨hg, hd⟩ | ⟨hg, hd⟩ | ⟨hg, hd⟩ := decodeNative_group decodeHyp f <;> rw [hd]
  · rw [unmapped_group0 f hg, Bool.not_not]
  · rw [unmapped_group1 f hg, Bool.not_not]
  · rw [unmapped_of_group f hg rfl rfl rfl, decodeLoadStoreImmediate_isOk, Bool.not_false]
  · rw [unmapped_of_group f hg rfl rfl rfl, decodeLoadStoreRegister_isOk, Bool.not_false]
  · rw [unmapped_of_group f hg rfl rfl rfl, decodeBlock_isOk, Bool.not_false]
  · rw [unmapped_of_group f hg rfl rfl rfl, decodeBranch_isOk, Bool.not_false]
  · rw [decodeCoproc_isOk]
    cases hsvc : f.isSvc
    · rw [unmapped_coproc f hg hsvc]
      rfl
    · rw [unmapped_svc f hsvc, Bool.not_not, if_pos rfl]

end

theorem exists_error_iff {α : Type} {r : Except DecodeReject α} : (∃ why, r = .error why) ↔ r.isOk = false := by
  cases r with
  | error why => exact ⟨fun _ => rfl, fun _ => ⟨why, rfl⟩⟩
  | ok i => exact ⟨fun ⟨_, h⟩ => (nomatch h), fun h => Bool.noConfusion h⟩

/-! ### The statement -/

/-- Whatever the hypercall entry answers, the native entry answers. -/
theorem decodeNative_of_decode {hyp : Bool} {w : Word} {i : Instr} (h : decode hyp w = .ok i) : decodeNative decodeHyp (fieldsOf w) = .ok i := by
  rw [decode] at h
  cases hyp with
  | false => exact h
  | true =>
    cases hsvc : (fieldsOf w).isSvc with
    | false =>
      rw [Machine.decodeFields_hypFlag_outside _ hsvc] at h
      cases h
    | true =>
      rw [Machine.decodeFields_svc _ _ hsvc, ← Machine.decodeFields_svc decodeHyp false hsvc] at h
      exact h

theorem decode_reads {hyp : Bool} {w : Word} {i : Instr} (h : decode hyp w = .ok i) : Reads (fieldsOf w) i :=
  decodeNative_reads (decodeNative_of_decode h)

theorem decodeIn_wellFormed {layout : HypLayout} {hyp : Bool} {w : Word} {i : Instr} (h : Machine.decodeIn layout hyp w = .ok i) :
    i.wellFormed = true ∧ i.cond = w.extractLsb' 28 4 := by
  have hdecode (hd : decode hyp w = .ok i) : i.wellFormed = true ∧ i.cond = w.extractLsb' 28 4 :=
    ⟨(decode_reads hd).wellFormed, (decode_reads hd).cond⟩
  cases layout with
  | h0 => exact hdecode h
  | build n =>
    rw [Machine.decodeIn] at h
    cases hsvc : (fieldsOf w).isSvc with
    | false =>
      rw [Machine.decodeFields_of_not_svc _ _ _ hsvc] at h
      exact hdecode h
    | true =>
      rw [Machine.decodeFields_svc _ _ hsvc] at h
      obtain ⟨j, hj, _, hw, hc⟩ | hno := Machine.buildForms_cases n (fieldsOf w)
      · obtain rfl : j = i := Except.ok.inj (hj.symm.trans h)
        exact ⟨hw, hc⟩
      · cases hno.symm.trans h

open Machine in
/-- Settles O17: what each demultiplexer answers, and where it has no row. -/
theorem decodedWellFormed : Obligations.DecodedWellFormed := by
  refine ⟨fun layout hyp w i h => decodeIn_wellFormed h, fun hyp w i h => ?_, fun w => ?_⟩
  · refine fieldsOf_injective ?_
    rw [fieldsOf_and, fieldsOf_and, encode, fieldsOf_toWord]
    exact (decode_reads h).agrees.symm
  · rw [exists_error_iff, unmapped_columns]
    show (decodeNative decodeHyp (fieldsOf w)).isOk = false ↔ _
    rw [decodeNative_isOk, Bool.not_eq_false']

end Sys2Proof
end
